-- ==== Sys2Proof/Word.lean ====
section
/-!
DEFINITION. The word types of the block (spec/00_scope.md R9, R10). Every checksum, accumulator and table entry is a
`u32`; every datum is a `u8`. All operators of R10 are the core `BitVec` ones.
-/

namespace Sys2Proof

/-- A `u8` (R9): one datum of the host data space, and the index of a table entry. -/
abbrev Byte := BitVec 8

/-- A `u32` (R9): a register, the accumulator, a table entry, a lane word. -/
abbrev Word := BitVec 32

/-- The 5-bit operation code `CMD.OP` (R21), also the width of `OPL` (R30). -/
abbrev Opcode := BitVec 5

/-- The 7-bit bus descriptor: WE then the six bits of IDX (R80). -/
abbrev Descriptor := BitVec 7

end Sys2Proof
end

