-- ==== Sys2Proof/Syntax.lean ====
section
/-!
DEFINITION. The block's instructions, whole: one constructor per row of spec/opcode_table.json. The block has two encoding
formats (spec/30_encoding.md R70): the command word (18 rows) and the host bus transaction (128 rows).
-/

namespace Sys2Proof

/-- The two polynomial families (spec/00_scope.md R13). -/
inductive Family where
  | zlib | castagnoli
  deriving DecidableEq, Repr

/-- The 17 checksum variants (R2), in the order of the opcode map (spec/30_encoding.md R72). The names with a leading `c`
are the Castagnoli ones. -/
inductive Variant where
  | bitwise | halfbyte | byte | slicing4 | slicing2x4 | slicing4x4
  | slicing8 | slicing16 | slicing2x16 | slicing2x8 | slicing4x8 | cSlicing4
  | cSlicing2x4 | cSlicing4x4 | cSlicing8 | cSlicing16 | cSlicing32
  deriving DecidableEq, Repr

/-- A legal command (R81): the table build, or a checksum of one variant. -/
inductive Command where
  | initTables
  | checksum (v : Variant)
  deriving DecidableEq, Repr

/-- The instructions. A command row has no operand (R74); a bus read carries none; a bus write carries its 32-bit data word
(R80). The rows of the reserved indices are instructions too: a bus decoder is total (R80). -/
inductive Instr where
  -- format CMD: the command words (R72)
  | initTables | crc32Bitwise | crc32Halfbyte | crc32Byte
  | crc32Slicing4 | crc32Slicing2x4 | crc32Slicing4x4 | crc32Slicing8
  | crc32Slicing16 | crc32Slicing2x16 | crc32Slicing2x8 | crc32Slicing4x8
  | crc32cSlicing4 | crc32cSlicing2x4 | crc32cSlicing4x4 | crc32cSlicing8
  | crc32cSlicing16 | crc32cSlicing32
  -- format BUS: host reads of the named registers (R190)
  | rdCmd | rdStatus | rdSrc | rdLen | rdCrc
  -- format BUS: host writes of the named registers (R191, R192, R196)
  | wrCmd (data : Word) | wrStatus (data : Word) | wrSrc (data : Word)
  | wrLen (data : Word) | wrCrc (data : Word)
  -- format BUS: host reads of the reserved indices 5 to 63 (R190, R39)
  | rdRsvd5 | rdRsvd6 | rdRsvd7 | rdRsvd8 | rdRsvd9 | rdRsvd10 | rdRsvd11 | rdRsvd12
  | rdRsvd13 | rdRsvd14 | rdRsvd15 | rdRsvd16 | rdRsvd17 | rdRsvd18 | rdRsvd19 | rdRsvd20
  | rdRsvd21 | rdRsvd22 | rdRsvd23 | rdRsvd24 | rdRsvd25 | rdRsvd26 | rdRsvd27 | rdRsvd28
  | rdRsvd29 | rdRsvd30 | rdRsvd31 | rdRsvd32 | rdRsvd33 | rdRsvd34 | rdRsvd35 | rdRsvd36
  | rdRsvd37 | rdRsvd38 | rdRsvd39 | rdRsvd40 | rdRsvd41 | rdRsvd42 | rdRsvd43 | rdRsvd44
  | rdRsvd45 | rdRsvd46 | rdRsvd47 | rdRsvd48 | rdRsvd49 | rdRsvd50 | rdRsvd51 | rdRsvd52
  | rdRsvd53 | rdRsvd54 | rdRsvd55 | rdRsvd56 | rdRsvd57 | rdRsvd58 | rdRsvd59 | rdRsvd60
  | rdRsvd61 | rdRsvd62 | rdRsvd63
  -- format BUS: host writes of the reserved indices 5 to 63 (R196, R39)
  | wrRsvd5 (data : Word) | wrRsvd6 (data : Word) | wrRsvd7 (data : Word) | wrRsvd8 (data : Word)
  | wrRsvd9 (data : Word) | wrRsvd10 (data : Word) | wrRsvd11 (data : Word) | wrRsvd12 (data : Word)
  | wrRsvd13 (data : Word) | wrRsvd14 (data : Word) | wrRsvd15 (data : Word) | wrRsvd16 (data : Word)
  | wrRsvd17 (data : Word) | wrRsvd18 (data : Word) | wrRsvd19 (data : Word) | wrRsvd20 (data : Word)
  | wrRsvd21 (data : Word) | wrRsvd22 (data : Word) | wrRsvd23 (data : Word) | wrRsvd24 (data : Word)
  | wrRsvd25 (data : Word) | wrRsvd26 (data : Word) | wrRsvd27 (data : Word) | wrRsvd28 (data : Word)
  | wrRsvd29 (data : Word) | wrRsvd30 (data : Word) | wrRsvd31 (data : Word) | wrRsvd32 (data : Word)
  | wrRsvd33 (data : Word) | wrRsvd34 (data : Word) | wrRsvd35 (data : Word) | wrRsvd36 (data : Word)
  | wrRsvd37 (data : Word) | wrRsvd38 (data : Word) | wrRsvd39 (data : Word) | wrRsvd40 (data : Word)
  | wrRsvd41 (data : Word) | wrRsvd42 (data : Word) | wrRsvd43 (data : Word) | wrRsvd44 (data : Word)
  | wrRsvd45 (data : Word) | wrRsvd46 (data : Word) | wrRsvd47 (data : Word) | wrRsvd48 (data : Word)
  | wrRsvd49 (data : Word) | wrRsvd50 (data : Word) | wrRsvd51 (data : Word) | wrRsvd52 (data : Word)
  | wrRsvd53 (data : Word) | wrRsvd54 (data : Word) | wrRsvd55 (data : Word) | wrRsvd56 (data : Word)
  | wrRsvd57 (data : Word) | wrRsvd58 (data : Word) | wrRsvd59 (data : Word) | wrRsvd60 (data : Word)
  | wrRsvd61 (data : Word) | wrRsvd62 (data : Word) | wrRsvd63 (data : Word)
  deriving DecidableEq, Repr

/-- An instruction as it travels (R70): a command word, or a bus descriptor with its data word (the data lines of a read
carry nothing the block looks at). -/
inductive Transfer where
  | command (w : Word)
  | bus (d : Descriptor) (data : Word)
  deriving DecidableEq, Repr

/-- The command row a legal command stands for (R72). -/
def Command.toInstr : Command → Instr
  | .initTables => .initTables
  | .checksum .bitwise => .crc32Bitwise
  | .checksum .halfbyte => .crc32Halfbyte
  | .checksum .byte => .crc32Byte
  | .checksum .slicing4 => .crc32Slicing4
  | .checksum .slicing2x4 => .crc32Slicing2x4
  | .checksum .slicing4x4 => .crc32Slicing4x4
  | .checksum .slicing8 => .crc32Slicing8
  | .checksum .slicing16 => .crc32Slicing16
  | .checksum .slicing2x16 => .crc32Slicing2x16
  | .checksum .slicing2x8 => .crc32Slicing2x8
  | .checksum .slicing4x8 => .crc32Slicing4x8
  | .checksum .cSlicing4 => .crc32cSlicing4
  | .checksum .cSlicing2x4 => .crc32cSlicing2x4
  | .checksum .cSlicing4x4 => .crc32cSlicing4x4
  | .checksum .cSlicing8 => .crc32cSlicing8
  | .checksum .cSlicing16 => .crc32cSlicing16
  | .checksum .cSlicing32 => .crc32cSlicing32

end Sys2Proof
end

