-- ==== Sys2Proof/Config.lean ====
section
/-!
DEFINITION. The implementation parameters of spec/00_scope.md R6 that are left OPEN, as plain data that no step changes, and
the free values: constants with no body, for what the spec leaves unspecified (spec/93_implementation_defined.md I1).
-/

namespace Sys2Proof

/-- All 17 checksum variants (R2). -/
def Variant.all : List Variant :=
  [.bitwise, .halfbyte, .byte, .slicing4, .slicing2x4, .slicing4x4, .slicing8, .slicing16, .slicing2x16, .slicing2x8,
    .slicing4x8, .cSlicing4, .cSlicing2x4, .cSlicing4x4, .cSlicing8, .cSlicing16, .cSlicing32]

/-- The OPEN parameters (R6, R51). They are fixed for one machine: a field of the state that no step writes, so that a claim
over all states is a claim over all builds (log entry 13). -/
structure Config where
  /-- `ADDR_WIDTH`, from 1 to 32: the host data space has 2^ADDR_WIDTH bytes (R50). -/
  addrWidth : Nat
  /-- `HOST_BIG_ENDIAN`: the byte order of the host data bus (spec/20_memory.md R53). -/
  hostBigEndian : Bool
  /-- `IMPLEMENTED_VARIANTS`: the variants this build provides (R76). -/
  implemented : List Variant
  /-- `REG_BASE`: where the platform puts the register window (R51). -/
  regBase : Nat
  deriving DecidableEq, Repr

/-- The spec's defaults (R6): 32 address bits, every variant. The two the spec gives no default for are DESIGN CHOICES
(log entry 13). -/
def Config.default : Config :=
  { addrWidth := 32, hostBigEndian := false, implemented := Variant.all, regBase := 0 }

/-- The number of bytes of the host data space (R50). -/
def Config.spaceSize (cfg : Config) : Nat := 2 ^ cfg.addrWidth

/-- A draw: the accumulator after a unit that reads unspecified table entries, a `u32` under no law
(spec/44_interface_and_sequencer.md R198). The counter in State gives each draw its own (log entry 8). -/
opaque Config.freeWord : Nat → Word

/-- The unspecified content of entry `i` of level `j` of the zlib table RAM (spec/10_state.md R35), where the RAM lists
none (log entry 7). -/
opaque Config.freeEntry : Nat → Nat → Word

end Sys2Proof
end

