-- ==== Sys2Proof/Decode.lean ====
section
/-!
DEFINITION. The decoder (spec/30_encoding.md R81 for command words, R80 for bus descriptors), total on any word and
rejecting by name, and after it the encoder, written from the same tables (R72, R80).
-/

namespace Sys2Proof

/-- Why a command word is Illegal: the three cases (a), (b), (c) of R76. -/
inductive DecodeError where
  /-- R76 (a): a bit of `RSVD`, bits 31 to 5, is set. -/
  | reservedBits
  /-- R76 (b): `OP` is a reserved opcode. -/
  | reservedOpcode
  /-- R76 (c): a checksum opcode that is not in `IMPLEMENTED_VARIANTS`. -/
  | notImplemented
  deriving DecidableEq, Repr

/-- The opcode map of R72, read by `OP`. Every other value of `OP` is reserved (R76). -/
def decodeOpcode (op : Opcode) : Except DecodeError Command :=
  match op.toNat with
  | 0x01 => .ok .initTables
  | 0x02 => .ok (.checksum .bitwise)
  | 0x03 => .ok (.checksum .halfbyte)
  | 0x04 => .ok (.checksum .byte)
  | 0x05 => .ok (.checksum .slicing4)
  | 0x06 => .ok (.checksum .slicing2x4)
  | 0x07 => .ok (.checksum .slicing4x4)
  | 0x08 => .ok (.checksum .slicing8)
  | 0x09 => .ok (.checksum .slicing16)
  | 0x0A => .ok (.checksum .slicing2x16)
  | 0x0B => .ok (.checksum .slicing2x8)
  | 0x0C => .ok (.checksum .slicing4x8)
  | 0x11 => .ok (.checksum .cSlicing4)
  | 0x12 => .ok (.checksum .cSlicing2x4)
  | 0x13 => .ok (.checksum .cSlicing4x4)
  | 0x14 => .ok (.checksum .cSlicing8)
  | 0x15 => .ok (.checksum .cSlicing16)
  | 0x16 => .ok (.checksum .cSlicing32)
  | _ => .error .reservedOpcode

/-- The fields of a command word (R71): `RSVD` must be zero, `OP` selects the row. What every build reads the same way. -/
def decodeWord (w : Word) : Except DecodeError Command :=
  if w >>> 5 = 0 then decodeOpcode (w.setWidth 5) else .error .reservedBits

/-- R81's last test: a checksum opcode must be in `IMPLEMENTED_VARIANTS`. `INIT_TABLES` is always implemented. -/
def checkImplemented (implemented : List Variant) : Command → Except DecodeError Command
  | .initTables => .ok .initTables
  | .checksum v => if v ∈ implemented then .ok (.checksum v) else .error .notImplemented

/-- R81 `decode(w)`, whole, for a build that implements the variants `implemented`. -/
def decodeCommand (implemented : List Variant) (w : Word) : Except DecodeError Command :=
  match decodeWord w with
  | .ok c => checkImplemented implemented c
  | .error e => .error e

/-- The read descriptors 0x00 to 0x3F, by IDX (R80). The last arm is index 63, the one index left. -/
def readInstr (idx : BitVec 6) : Instr :=
  match idx.toNat with
  | 0 => .rdCmd | 1 => .rdStatus | 2 => .rdSrc | 3 => .rdLen
  | 4 => .rdCrc | 5 => .rdRsvd5 | 6 => .rdRsvd6 | 7 => .rdRsvd7
  | 8 => .rdRsvd8 | 9 => .rdRsvd9 | 10 => .rdRsvd10 | 11 => .rdRsvd11
  | 12 => .rdRsvd12 | 13 => .rdRsvd13 | 14 => .rdRsvd14 | 15 => .rdRsvd15
  | 16 => .rdRsvd16 | 17 => .rdRsvd17 | 18 => .rdRsvd18 | 19 => .rdRsvd19
  | 20 => .rdRsvd20 | 21 => .rdRsvd21 | 22 => .rdRsvd22 | 23 => .rdRsvd23
  | 24 => .rdRsvd24 | 25 => .rdRsvd25 | 26 => .rdRsvd26 | 27 => .rdRsvd27
  | 28 => .rdRsvd28 | 29 => .rdRsvd29 | 30 => .rdRsvd30 | 31 => .rdRsvd31
  | 32 => .rdRsvd32 | 33 => .rdRsvd33 | 34 => .rdRsvd34 | 35 => .rdRsvd35
  | 36 => .rdRsvd36 | 37 => .rdRsvd37 | 38 => .rdRsvd38 | 39 => .rdRsvd39
  | 40 => .rdRsvd40 | 41 => .rdRsvd41 | 42 => .rdRsvd42 | 43 => .rdRsvd43
  | 44 => .rdRsvd44 | 45 => .rdRsvd45 | 46 => .rdRsvd46 | 47 => .rdRsvd47
  | 48 => .rdRsvd48 | 49 => .rdRsvd49 | 50 => .rdRsvd50 | 51 => .rdRsvd51
  | 52 => .rdRsvd52 | 53 => .rdRsvd53 | 54 => .rdRsvd54 | 55 => .rdRsvd55
  | 56 => .rdRsvd56 | 57 => .rdRsvd57 | 58 => .rdRsvd58 | 59 => .rdRsvd59
  | 60 => .rdRsvd60 | 61 => .rdRsvd61 | 62 => .rdRsvd62
  | _ => .rdRsvd63

/-- The write descriptors 0x40 to 0x7F, by IDX, with the data word (R80). The last arm is index 63. -/
def writeInstr (idx : BitVec 6) (data : Word) : Instr :=
  match idx.toNat with
  | 0 => .wrCmd data | 1 => .wrStatus data | 2 => .wrSrc data | 3 => .wrLen data
  | 4 => .wrCrc data | 5 => .wrRsvd5 data | 6 => .wrRsvd6 data | 7 => .wrRsvd7 data
  | 8 => .wrRsvd8 data | 9 => .wrRsvd9 data | 10 => .wrRsvd10 data | 11 => .wrRsvd11 data
  | 12 => .wrRsvd12 data | 13 => .wrRsvd13 data | 14 => .wrRsvd14 data | 15 => .wrRsvd15 data
  | 16 => .wrRsvd16 data | 17 => .wrRsvd17 data | 18 => .wrRsvd18 data | 19 => .wrRsvd19 data
  | 20 => .wrRsvd20 data | 21 => .wrRsvd21 data | 22 => .wrRsvd22 data | 23 => .wrRsvd23 data
  | 24 => .wrRsvd24 data | 25 => .wrRsvd25 data | 26 => .wrRsvd26 data | 27 => .wrRsvd27 data
  | 28 => .wrRsvd28 data | 29 => .wrRsvd29 data | 30 => .wrRsvd30 data | 31 => .wrRsvd31 data
  | 32 => .wrRsvd32 data | 33 => .wrRsvd33 data | 34 => .wrRsvd34 data | 35 => .wrRsvd35 data
  | 36 => .wrRsvd36 data | 37 => .wrRsvd37 data | 38 => .wrRsvd38 data | 39 => .wrRsvd39 data
  | 40 => .wrRsvd40 data | 41 => .wrRsvd41 data | 42 => .wrRsvd42 data | 43 => .wrRsvd43 data
  | 44 => .wrRsvd44 data | 45 => .wrRsvd45 data | 46 => .wrRsvd46 data | 47 => .wrRsvd47 data
  | 48 => .wrRsvd48 data | 49 => .wrRsvd49 data | 50 => .wrRsvd50 data | 51 => .wrRsvd51 data
  | 52 => .wrRsvd52 data | 53 => .wrRsvd53 data | 54 => .wrRsvd54 data | 55 => .wrRsvd55 data
  | 56 => .wrRsvd56 data | 57 => .wrRsvd57 data | 58 => .wrRsvd58 data | 59 => .wrRsvd59 data
  | 60 => .wrRsvd60 data | 61 => .wrRsvd61 data | 62 => .wrRsvd62 data
  | _ => .wrRsvd63 data

/-- The bus decoder (R80): WE is bit 6, IDX is bits 5 to 0. Total: every descriptor value is defined. -/
def decodeBus (d : Descriptor) (data : Word) : Instr :=
  if d.getLsbD 6 then writeInstr (d.setWidth 6) data else readInstr (d.setWidth 6)

/-- The decoder of both formats (R70). Only a command word can be refused. -/
def decode : Transfer → Except DecodeError Instr
  | .command w =>
    match decodeWord w with
    | .ok c => .ok c.toInstr
    | .error e => .error e
  | .bus d data => .ok (decodeBus d data)

/-- What the machine runs for a transfer: the decoded instruction; for an Illegal command word, the host write of that word
to `CMD`, whose meaning rejects it (R192). A command word IS the data of a host write to `CMD` (R70). -/
def instrOf (t : Transfer) : Instr :=
  match t, decode t with
  | _, .ok i => i
  | .command w, .error _ => .wrCmd w
  | .bus d data, .error _ => decodeBus d data

/-- A table word laid out as the block receives it: a 32-bit row is a command word; any other length is a bus transfer, whose
descriptor is bits 6 to 0 of the first byte and whose data word is the next 32 bits (log entry 4). -/
def tableTransfer (nbits w : Nat) : Transfer :=
  if nbits = 32 then .command (BitVec.ofNat 32 w)
  else .bus (BitVec.ofNat 7 w) (BitVec.ofNat 32 (w >>> 8))

/-- The instruction the decoder reads from a table word of `nbits` bits. Bit 7 of a bus transfer's first byte is no bit of
the 7-bit descriptor, so a word that sets it is refused. -/
def decodeTableWord (nbits w : Nat) : Option Instr :=
  if nbits ≠ 32 ∧ w.testBit 7 = true then none
  else
    match decode (tableTransfer nbits w) with
    | .ok i => some i
    | .error _ => none

/-! ## The encoder -/

/-- The opcode of a command (R72). -/
def encodeOpcode : Command → Opcode
  | .initTables => 0x01
  | .checksum .bitwise => 0x02
  | .checksum .halfbyte => 0x03
  | .checksum .byte => 0x04
  | .checksum .slicing4 => 0x05
  | .checksum .slicing2x4 => 0x06
  | .checksum .slicing4x4 => 0x07
  | .checksum .slicing8 => 0x08
  | .checksum .slicing16 => 0x09
  | .checksum .slicing2x16 => 0x0A
  | .checksum .slicing2x8 => 0x0B
  | .checksum .slicing4x8 => 0x0C
  | .checksum .cSlicing4 => 0x11
  | .checksum .cSlicing2x4 => 0x12
  | .checksum .cSlicing4x4 => 0x13
  | .checksum .cSlicing8 => 0x14
  | .checksum .cSlicing16 => 0x15
  | .checksum .cSlicing32 => 0x16

/-- The command word of a command: `RSVD` zero, `OP` in bits 4 to 0 (R71). -/
def encodeWord (c : Command) : Word := (encodeOpcode c).setWidth 32

/-- The transfer that carries an instruction (R72, R80). A read's data lines are zero. -/
def encode : Instr → Transfer
  | .initTables => .command 0x00000001
  | .crc32Bitwise => .command 0x00000002
  | .crc32Halfbyte => .command 0x00000003
  | .crc32Byte => .command 0x00000004
  | .crc32Slicing4 => .command 0x00000005
  | .crc32Slicing2x4 => .command 0x00000006
  | .crc32Slicing4x4 => .command 0x00000007
  | .crc32Slicing8 => .command 0x00000008
  | .crc32Slicing16 => .command 0x00000009
  | .crc32Slicing2x16 => .command 0x0000000A
  | .crc32Slicing2x8 => .command 0x0000000B
  | .crc32Slicing4x8 => .command 0x0000000C
  | .crc32cSlicing4 => .command 0x00000011
  | .crc32cSlicing2x4 => .command 0x00000012
  | .crc32cSlicing4x4 => .command 0x00000013
  | .crc32cSlicing8 => .command 0x00000014
  | .crc32cSlicing16 => .command 0x00000015
  | .crc32cSlicing32 => .command 0x00000016
  | .rdCmd => .bus 0x00 0 | .rdStatus => .bus 0x01 0 | .rdSrc => .bus 0x02 0
  | .rdLen => .bus 0x03 0 | .rdCrc => .bus 0x04 0 | .rdRsvd5 => .bus 0x05 0
  | .rdRsvd6 => .bus 0x06 0 | .rdRsvd7 => .bus 0x07 0 | .rdRsvd8 => .bus 0x08 0
  | .rdRsvd9 => .bus 0x09 0 | .rdRsvd10 => .bus 0x0A 0 | .rdRsvd11 => .bus 0x0B 0
  | .rdRsvd12 => .bus 0x0C 0 | .rdRsvd13 => .bus 0x0D 0 | .rdRsvd14 => .bus 0x0E 0
  | .rdRsvd15 => .bus 0x0F 0 | .rdRsvd16 => .bus 0x10 0 | .rdRsvd17 => .bus 0x11 0
  | .rdRsvd18 => .bus 0x12 0 | .rdRsvd19 => .bus 0x13 0 | .rdRsvd20 => .bus 0x14 0
  | .rdRsvd21 => .bus 0x15 0 | .rdRsvd22 => .bus 0x16 0 | .rdRsvd23 => .bus 0x17 0
  | .rdRsvd24 => .bus 0x18 0 | .rdRsvd25 => .bus 0x19 0 | .rdRsvd26 => .bus 0x1A 0
  | .rdRsvd27 => .bus 0x1B 0 | .rdRsvd28 => .bus 0x1C 0 | .rdRsvd29 => .bus 0x1D 0
  | .rdRsvd30 => .bus 0x1E 0 | .rdRsvd31 => .bus 0x1F 0 | .rdRsvd32 => .bus 0x20 0
  | .rdRsvd33 => .bus 0x21 0 | .rdRsvd34 => .bus 0x22 0 | .rdRsvd35 => .bus 0x23 0
  | .rdRsvd36 => .bus 0x24 0 | .rdRsvd37 => .bus 0x25 0 | .rdRsvd38 => .bus 0x26 0
  | .rdRsvd39 => .bus 0x27 0 | .rdRsvd40 => .bus 0x28 0 | .rdRsvd41 => .bus 0x29 0
  | .rdRsvd42 => .bus 0x2A 0 | .rdRsvd43 => .bus 0x2B 0 | .rdRsvd44 => .bus 0x2C 0
  | .rdRsvd45 => .bus 0x2D 0 | .rdRsvd46 => .bus 0x2E 0 | .rdRsvd47 => .bus 0x2F 0
  | .rdRsvd48 => .bus 0x30 0 | .rdRsvd49 => .bus 0x31 0 | .rdRsvd50 => .bus 0x32 0
  | .rdRsvd51 => .bus 0x33 0 | .rdRsvd52 => .bus 0x34 0 | .rdRsvd53 => .bus 0x35 0
  | .rdRsvd54 => .bus 0x36 0 | .rdRsvd55 => .bus 0x37 0 | .rdRsvd56 => .bus 0x38 0
  | .rdRsvd57 => .bus 0x39 0 | .rdRsvd58 => .bus 0x3A 0 | .rdRsvd59 => .bus 0x3B 0
  | .rdRsvd60 => .bus 0x3C 0 | .rdRsvd61 => .bus 0x3D 0 | .rdRsvd62 => .bus 0x3E 0
  | .rdRsvd63 => .bus 0x3F 0
  | .wrCmd v => .bus 0x40 v | .wrStatus v => .bus 0x41 v | .wrSrc v => .bus 0x42 v
  | .wrLen v => .bus 0x43 v | .wrCrc v => .bus 0x44 v | .wrRsvd5 v => .bus 0x45 v
  | .wrRsvd6 v => .bus 0x46 v | .wrRsvd7 v => .bus 0x47 v | .wrRsvd8 v => .bus 0x48 v
  | .wrRsvd9 v => .bus 0x49 v | .wrRsvd10 v => .bus 0x4A v | .wrRsvd11 v => .bus 0x4B v
  | .wrRsvd12 v => .bus 0x4C v | .wrRsvd13 v => .bus 0x4D v | .wrRsvd14 v => .bus 0x4E v
  | .wrRsvd15 v => .bus 0x4F v | .wrRsvd16 v => .bus 0x50 v | .wrRsvd17 v => .bus 0x51 v
  | .wrRsvd18 v => .bus 0x52 v | .wrRsvd19 v => .bus 0x53 v | .wrRsvd20 v => .bus 0x54 v
  | .wrRsvd21 v => .bus 0x55 v | .wrRsvd22 v => .bus 0x56 v | .wrRsvd23 v => .bus 0x57 v
  | .wrRsvd24 v => .bus 0x58 v | .wrRsvd25 v => .bus 0x59 v | .wrRsvd26 v => .bus 0x5A v
  | .wrRsvd27 v => .bus 0x5B v | .wrRsvd28 v => .bus 0x5C v | .wrRsvd29 v => .bus 0x5D v
  | .wrRsvd30 v => .bus 0x5E v | .wrRsvd31 v => .bus 0x5F v | .wrRsvd32 v => .bus 0x60 v
  | .wrRsvd33 v => .bus 0x61 v | .wrRsvd34 v => .bus 0x62 v | .wrRsvd35 v => .bus 0x63 v
  | .wrRsvd36 v => .bus 0x64 v | .wrRsvd37 v => .bus 0x65 v | .wrRsvd38 v => .bus 0x66 v
  | .wrRsvd39 v => .bus 0x67 v | .wrRsvd40 v => .bus 0x68 v | .wrRsvd41 v => .bus 0x69 v
  | .wrRsvd42 v => .bus 0x6A v | .wrRsvd43 v => .bus 0x6B v | .wrRsvd44 v => .bus 0x6C v
  | .wrRsvd45 v => .bus 0x6D v | .wrRsvd46 v => .bus 0x6E v | .wrRsvd47 v => .bus 0x6F v
  | .wrRsvd48 v => .bus 0x70 v | .wrRsvd49 v => .bus 0x71 v | .wrRsvd50 v => .bus 0x72 v
  | .wrRsvd51 v => .bus 0x73 v | .wrRsvd52 v => .bus 0x74 v | .wrRsvd53 v => .bus 0x75 v
  | .wrRsvd54 v => .bus 0x76 v | .wrRsvd55 v => .bus 0x77 v | .wrRsvd56 v => .bus 0x78 v
  | .wrRsvd57 v => .bus 0x79 v | .wrRsvd58 v => .bus 0x7A v | .wrRsvd59 v => .bus 0x7B v
  | .wrRsvd60 v => .bus 0x7C v | .wrRsvd61 v => .bus 0x7D v | .wrRsvd62 v => .bus 0x7E v
  | .wrRsvd63 v => .bus 0x7F v

end Sys2Proof
end

