-- ==== Sys2Proof/WellFormed.lean ====
section
/-!
DEFINITION. Well-formedness of a configuration (spec/00_scope.md R6) and of an instruction in a build
(spec/30_encoding.md R76 (c)). Operands need no check: the data word of a write is any 32 bits (R80).
-/

namespace Sys2Proof

/-- `1 ≤ ADDR_WIDTH ≤ 32`, and `IMPLEMENTED_VARIANTS` is a set: no variant is listed twice (R6). -/
def Config.wf (cfg : Config) : Bool :=
  decide (1 ≤ cfg.addrWidth) && decide (cfg.addrWidth ≤ 32) && decide cfg.implemented.Nodup

/-- An instruction of a build: a checksum command must be one of its `IMPLEMENTED_VARIANTS` (R76 (c)). Every bus transaction
and `INIT_TABLES` are instructions of every build. -/
def Instr.wf (cfg : Config) (i : Instr) : Bool :=
  Variant.all.all fun v => decide (i ≠ (Command.checksum v).toInstr) || decide (v ∈ cfg.implemented)

end Sys2Proof
end

