-- ==== Sys2Proof/Machine/State.lean ====
section
/-!
DEFINITION. The state of the block and of what stands around it, as plain data: the registers of spec/10_state.md, the zlib
table RAM, the host data space of spec/20_memory.md, the events still to come, and the records a model keeps
(spec/60_exceptions.md R210). `State.reset` is the state right after reset (spec/70_reset_and_hazards.md R241).
-/

namespace Sys2Proof.Machine

/-- The sequencer state `PHASE` (R30). -/
inductive Phase where
  | idle | run | init
  deriving DecidableEq, Repr

/-- The four error codes of R211 that are ever recorded. -/
inductive ErrCode where
  | illegal | range | busy | bus
  deriving DecidableEq, Repr

/-- The host data space: the bytes that answer a read, as (address, byte) pairs. An address that is not listed has no byte:
the host memory answers `BusError` there (R50, R60; log entry 5). -/
abbrev Memory := List Host.Cell

/-- The canonical form: addresses strictly rising. Every byte differs from "no byte", so no other condition is needed. -/
abbrev Memory.wf (m : Memory) : Prop := m.Pairwise fun a b => a.1 < b.1

/-- The contents of the zlib table RAM, level by level, each level its 256 entries in order (R35). An entry that is not
listed is unspecified (R241). -/
abbrev TableRam := List (List Word)

/-- One event of the world outside the engine, atomic with respect to every other (spec/44_interface_and_sequencer.md R202).
The list of those still to come is the schedule of the run (log entries 1 and 2). -/
inductive Input where
  /-- A host transaction on the bus, or the command word of one (R70). -/
  | transfer (t : Transfer)
  /-- The engine's turn: it performs its next unit (R197). -/
  | engine
  /-- The reset input (spec/70_reset_and_hazards.md R240). -/
  | reset
  /-- The host writes a byte of its own data space (R50, R61). -/
  | memWrite (addr : Nat) (b : Byte)
  deriving DecidableEq, Repr

/-- The whole state. Every field but the last six is the spec's own; INVENTORY.md names the rule of each. -/
structure State where
  /-- The OPEN parameters of this build (R6). No step changes them. -/
  cfg : Config
  /-- `STATUS.BUSY` (R23). -/
  busy : Bool
  /-- `STATUS.TBL_VALID` (R24). -/
  tblValid : Bool
  /-- `STATUS.DONE` (R25). -/
  done : Bool
  /-- `STATUS.ERR` (R26). -/
  err : BitVec 4
  /-- `SRC` (R27). -/
  src : Word
  /-- `LEN` (R28). -/
  len : Word
  /-- `CRC` (R29). -/
  crc : Word
  /-- `ACC`, the accumulator (R32). -/
  acc : Word
  /-- `PTR`, of ADDR_WIDTH + 1 bits, at most 33 (R30, R31; log entry 12). -/
  ptr : BitVec 33
  /-- `REM` (R33). -/
  rem : Word
  /-- `OPL`, the latched opcode (R34). -/
  opl : Opcode
  /-- `PHASE` (R34). -/
  phase : Phase
  /-- `T_Z` (R35). -/
  tz : TableRam
  /-- The host data space (R50). -/
  mem : Memory
  /-- The addresses at which the host memory never answers a read (R201; log entry 5). -/
  silent : List Nat
  /-- The model's fault record, oldest first. No step removes an entry (R210). -/
  faults : List ErrCode
  /-- The words the block has returned to host reads, oldest first (R190; log entry 11). -/
  reads : List Word
  /-- How many draws have been made (R198; log entry 8). -/
  draws : Nat
  /-- The events still to come, in order (log entry 1). -/
  inputs : List Input
  deriving DecidableEq, Repr

/-- Why the machine stops. Neither constructor is raised by an instruction. -/
inductive Fault where
  /-- Raised by an engine unit in a state that no run reaches: a checksum is running and `OPL` holds no checksum opcode
  (log entry 20). Safe: the machine stops where the spec gives no unit. -/
  | runningOpcodeUnknown
  /-- Raised by a host memory write to an address of 2^ADDR_WIDTH or above, which the host data space does not have (R50;
  log entry 18). Safe: the machine stops. -/
  | addressOutsideSpace
  deriving DecidableEq, Repr

/-- Why a step has no meaning. -/
inductive Refusal where
  /-- Raised by no arm: every instruction has its meaning. Safe. -/
  | notModelled (mnemonic : String)
  /-- Raised by a host memory write to a byte of the buffer while BUSY = 1: R61 says a model gives the host no such move
  (spec/93_implementation_defined.md I4; log entry 17). Unsafe for a host that breaks the duty: a claim says nothing of it. -/
  | bufferWriteWhileBusy
  deriving DecidableEq, Repr

/-- The outcome of a step of this machine. -/
abbrev Outcome := Host.Outcome State Fault Refusal

/-- The state right after reset (R241). `ACC`, `PTR`, `REM` and `OPL` are unspecified there: zero is a DESIGN CHOICE (log
entry 6). `T_Z` lists nothing: its contents are unspecified (log entry 7). The host data space and the schedule list nothing
(log entries 4 and 5), and the records are empty. -/
def State.reset : State :=
  { cfg := Config.default
    busy := false, tblValid := false, done := false, err := 0
    src := 0, len := 0, crc := 0
    acc := 0, ptr := 0, rem := 0, opl := 0
    phase := .idle
    tz := []
    mem := [], silent := []
    faults := [], reads := [], draws := 0, inputs := [] }

end Sys2Proof.Machine
end

