-- ==== Sys2Proof/Machine/Tables.lean ====
section
/-!
DEFINITION. The polynomials, the bit iteration and the contents of both table sets (spec/40_table_builder.md).
-/

namespace Sys2Proof.Machine

/-- `P_Z`, the reflected zlib polynomial (R7). -/
def polyZlib : Word := 0xEDB88320

/-- `P_C`, the reflected Castagnoli polynomial (R8). PRESUMED by the spec itself: the value is from general knowledge, and
the vector of spec/95_test_vectors.md V3 is its acceptance test (log entry 16). -/
def polyCastagnoli : Word := 0x82F63B78

/-- `reflect32(v)`: the word whose bit k is bit 31 − k of `v` (R12). It relates the normal forms of R7 and R8 to the reflected
ones; no datapath uses it. -/
def reflect32 (v : Word) : Word := BitVec.reverse v

/-- `bitstep_P(c) = (c >> 1) ^ (if c[0] = 1 then P else 0)` (R100). -/
def bitstep (p c : Word) : Word := (c >>> 1) ^^^ (if c.getLsbD 0 then p else 0)

/-- `n` applications of a function: `f^n`. -/
def iterate (f : Word → Word) : Nat → Word → Word
  | 0, c => c
  | n + 1, c => iterate f n (f c)

/-- Level 0: entry `i` is eight bit iterations on the value `i` (R101). -/
def level0 (p : Word) (i : Byte) : Word := iterate (bitstep p) 8 (i.setWidth 32)

/-- `Z_T(x) = (x >> 8) ^ T[0][x & 0xFF]`: one byte-at-once step with a zero datum (R105). -/
def zeroStep (t0 : Byte → Word) (x : Word) : Word := (x >>> 8) ^^^ t0 (x.setWidth 8)

/-- Entry `i` of level `j` of the table set of polynomial `p`, by the recurrence of R101, R102 and R108: each level is the
zero step of the level before. -/
def tableEntry (p : Word) : Nat → Byte → Word
  | 0, i => level0 p i
  | j + 1, i => zeroStep (level0 p) (tableEntry p j i)

/-- A table set as the datapaths read it: by level and byte value (R51). -/
abbrev Table := Nat → Byte → Word

/-- What the table-build unit writes into `T_Z`: 16 levels of 256 entries (R106). The order of the build cannot be observed
(R103). -/
def builtTables : TableRam :=
  (List.range 16).map fun j => (List.range 256).map fun i => tableEntry polyZlib j (BitVec.ofNat 8 i)

/-- `T_Z[j][i]`: what the RAM lists, and an unspecified word where it lists nothing (R35). -/
def tzRead (ram : TableRam) : Table := fun j i =>
  match ram[j]? with
  | some level =>
    match level[i.toNat]? with
    | some w => w
    | none => Config.freeEntry j i.toNat
  | none => Config.freeEntry j i.toNat

/-- `T_C`: the constant ROM, defined by `P_C` (R36, R108). No command reads a level above 11 (R109). -/
def tcRead : Table := tableEntry polyCastagnoli

end Sys2Proof.Machine
end

