-- ==== Sys2Proof/Machine/Operands.lean ====
section
/-!
DEFINITION. How operands are formed: register fields, the checksum's two forms, lane words and the endianness adapter, the
geometry of the variants, and the address of a register (spec/00_scope.md R12, R13; spec/20_memory.md; spec/30_encoding.md).
-/

namespace Sys2Proof.Machine

/-- `zext_32(v[n−1:0])`: the low `n` bits of a register (R27). -/
def lowBits (n : Nat) (v : Word) : Word := BitVec.ofNat 32 (v.toNat % 2 ^ n)

/-- `x[SRC]` as every reader sees it: bits at and above ADDR_WIDTH read as zero (R27, R190). -/
def State.srcValue (s : State) : Word := lowBits s.cfg.addrWidth s.src

/-- The family of a checksum command (R13, the `fam` column of R72). -/
def variantFamily : Variant → Family
  | .bitwise | .halfbyte | .byte | .slicing4 | .slicing2x4 | .slicing4x4 | .slicing8 | .slicing16 | .slicing2x16
  | .slicing2x8 | .slicing4x8 => .zlib
  | .cSlicing4 | .cSlicing2x4 | .cSlicing4x4 | .cSlicing8 | .cSlicing16 | .cSlicing32 => .castagnoli

/-- The iteration size `B` in bytes (the `B` column of R72). -/
def iterationSize : Variant → Nat
  | .bitwise | .halfbyte | .byte => 1
  | .slicing4 | .cSlicing4 => 4
  | .slicing2x4 | .slicing8 | .cSlicing2x4 | .cSlicing8 => 8
  | .slicing4x4 | .slicing16 | .slicing2x8 | .cSlicing4x4 | .cSlicing16 => 16
  | .slicing2x16 | .slicing4x8 | .cSlicing32 => 32

/-- `entry_F` (R13): family Z complements the carry-in, family C does not (R170). -/
def entryValue : Family → Word → Word
  | .zlib, c => ~~~c
  | .castagnoli, c => c

/-- `exit_F` (R13): family Z complements the accumulator, family C does not (R170). -/
def exitValue : Family → Word → Word
  | .zlib, a => ~~~a
  | .castagnoli, a => a

/-- `word(b0, b1, b2, b3)`: little-endian lane assembly (R12, R52). -/
def word (b0 b1 b2 b3 : Byte) : Word :=
  b0.setWidth 32 ||| (b1.setWidth 32 <<< 8) ||| (b2.setWidth 32 <<< 16) ||| (b3.setWidth 32 <<< 24)

/-- `lane(w, k) = w[8k+7 : 8k]` (R12). -/
def lane (w : Word) (k : Nat) : Byte := (w >>> (8 * k)).setWidth 8

/-- The byte swap of a beat (R53). -/
def byteSwap (w : Word) : Word := word (lane w 3) (lane w 2) (lane w 1) (lane w 0)

/-- The 32-bit beat the host data bus carries for four bytes, in the platform's byte order (R53). -/
def hostBeat (bigEndian : Bool) (b0 b1 b2 b3 : Byte) : Word :=
  if bigEndian then word b3 b2 b1 b0 else word b0 b1 b2 b3

/-- The endianness adapter: it passes a little-endian beat and swaps a big-endian one (R53). -/
def adapter (bigEndian : Bool) (beat : Word) : Word := if bigEndian then byteSwap beat else beat

/-- `LW(a)` as the datapath loads it: the four bytes cross the host data bus and the adapter (R52, R53, R141; log entry 14). -/
def laneWord (bigEndian : Bool) (b0 b1 b2 b3 : Byte) : Word := adapter bigEndian (hostBeat bigEndian b0 b1 b2 b3)

/-- The lane words of a block, in address order (R141). -/
def laneWords (bigEndian : Bool) : List Byte → List Word
  | b0 :: b1 :: b2 :: b3 :: rest => laneWord bigEndian b0 b1 b2 b3 :: laneWords bigEndian rest
  | _ => []

/-- The descriptor of a host access at a byte address of the platform's map: the register window stands at REG_BASE, byte
offset = 4 × index (R20, R51). A misaligned access, or one outside the 64 words, is no access of the block (R80). -/
def windowDescriptor (cfg : Config) (write : Bool) (addr : Nat) : Option Descriptor :=
  if cfg.regBase ≤ addr ∧ (addr - cfg.regBase) % 4 = 0 ∧ (addr - cfg.regBase) / 4 < 64 then
    some (BitVec.ofBool write ++ BitVec.ofNat 6 ((addr - cfg.regBase) / 4))
  else none

end Sys2Proof.Machine
end

