-- ==== Sys2Proof/Machine/Flags.lean ====
section
/-!
DEFINITION. The flags of the block: the four fields of `STATUS` and who writes them (spec/10_state.md R22 to R26, R40;
spec/60_exceptions.md R210, R211).
-/

namespace Sys2Proof.Machine

/-- The 4-bit value of an error code (R211). -/
def errValue : ErrCode → BitVec 4
  | .illegal => 1
  | .range => 2
  | .busy => 3
  | .bus => 4

/-- The word a read of `STATUS` returns: `{20'b0, ERR, 5'b0, DONE, TBL_VALID, BUSY}` (R190, R22). -/
def statusWord (s : State) : Word :=
  0#20 ++ s.err ++ 0#5 ++ BitVec.ofBool s.done ++ BitVec.ofBool s.tblValid ++ BitVec.ofBool s.busy

/-- `raise Error(code)`: `STATUS.ERR <- code` and nothing more, and the model's record gains the error (R210). -/
def raiseError (e : ErrCode) (s : State) : State := { s with err := errValue e, faults := s.faults ++ [e] }

/-- The flags of an acceptance: `ERR <- 0 ; DONE <- 0 ; BUSY <- 1` (R194). -/
def flagsOfAcceptance (s : State) : State := { s with err := 0, done := false, busy := true }

/-- The flags and the phase of a finish: `BUSY <- 0 ; DONE <- 1 ; PHASE <- IDLE` (R199, R106). `ERR` stays. -/
def flagsOfFinish (s : State) : State := { s with busy := false, done := true, phase := .idle }

/-- The flags and the phase of an abort: `BUSY <- 0 ; DONE <- 0 ; PHASE <- IDLE` (R214). -/
def flagsOfAbort (s : State) : State := { s with busy := false, done := false, phase := .idle }

end Sys2Proof.Machine
end

