-- ==== Sys2Proof/Machine/Ops.lean ====
section
/-!
DEFINITION. The named operations over memory and registers that the meanings share: reading and writing the host data space,
host reads and writes of registers, and what becomes of a command request (spec/44_interface_and_sequencer.md). The block has
no traps (spec/60_exceptions.md R210, R219): its whole error mechanism is `raiseError`, with the drop, the rejection and the
abort that go with it.
-/

namespace Sys2Proof.Machine

/-! ## The host data space -/

/-- The byte listed at an address, if there is one. -/
def Memory.read : Memory → Nat → Option Byte
  | [], _ => none
  | (k, b) :: rest, a => if k = a then some b else Memory.read rest a

/-- Writes one byte and keeps the canonical form. -/
def Memory.write : Memory → Nat → Byte → Memory
  | [], a, b => [(a, b)]
  | (k, c) :: rest, a, b =>
    if a < k then (a, b) :: (k, c) :: rest
    else if a = k then (a, b) :: rest
    else (k, c) :: Memory.write rest a b

/-- The answer of the host memory to a read: the data, `BusError`, or no answer ever (R50, R201). -/
inductive MemAnswer (α : Type) where
  | data (a : α)
  | busError
  | noAnswer
  deriving DecidableEq, Repr

/-- `MemRead(a, 1)` (R11, R50). -/
def memByte (s : State) (a : Nat) : MemAnswer Byte :=
  if a ∈ s.silent then .noAnswer
  else
    match s.mem.read a with
    | some b => .data b
    | none => .busError

/-- `MemRead(a, n)`: the bytes at `a, …, a+n−1`, each read once, in increasing address order (R11, R56, R57). The first
address that gives no byte decides the answer (log entry 19). -/
def memRead (s : State) : Nat → Nat → MemAnswer (List Byte)
  | _, 0 => .data []
  | a, n + 1 =>
    match memByte s a with
    | .data b =>
      match memRead s (a + 1) n with
      | .data bs => .data (b :: bs)
      | .busError => .busError
      | .noAnswer => .noAnswer
    | .busError => .busError
    | .noAnswer => .noAnswer

/-! ## Host register transactions -/

/-- The word a host read of index `idx` returns (R190). -/
def registerValue (idx : Nat) (s : State) : Word :=
  match idx with
  | 1 => statusWord s
  | 2 => s.srcValue
  | 3 => s.len
  | 4 => s.crc
  | _ => 0

/-- A host read: it returns the register's word and has no side effect, busy or not (R190, R58). -/
def hostRead (idx : Nat) (s : State) : Outcome := .next { s with reads := s.reads ++ [registerValue idx s] }

/-- `x[SRC] <- zext_32(v[ADDR_WIDTH−1:0])` (R191). -/
def State.setSrc (s : State) (v : Word) : State := { s with src := lowBits s.cfg.addrWidth v }

/-- `x[LEN] <- v` (R191). -/
def State.setLen (s : State) (v : Word) : State := { s with len := v }

/-- `x[CRC] <- v` (R191). -/
def State.setCrc (s : State) (v : Word) : State := { s with crc := v }

/-- A host write of `SRC`, `LEN` or `CRC`: dropped with `ERR_BUSY` while a command runs (R191, R215). -/
def registerWrite (write : State → State) (s : State) : Outcome :=
  if s.busy then .next (raiseError .busy s) else .next (write s)

/-- A host write of `STATUS` or of a reserved index: ignored, no state changes and no error (R196, R39). -/
def ignoredWrite (_data : Word) (s : State) : Outcome := .next s

/-! ## Command requests -/

/-- `reject(e)`: `ERR <- e ; DONE <- 0`, nothing else (R195). -/
def reject (e : ErrCode) (s : State) : State := { raiseError e s with done := false }

/-- `range_ok`: `SRC + LEN ≤ 2^ADDR_WIDTH` over the unbounded naturals (R193). -/
def rangeOk (s : State) : Bool := decide (s.srcValue.toNat + s.len.toNat ≤ s.cfg.spaceSize)

/-- `accept(op)`, one transition of the host's `CMD` write (R194). -/
def accept (c : Command) (s : State) : State :=
  match c with
  | .initTables => { flagsOfAcceptance s with opl := encodeOpcode c, tblValid := false, phase := .init }
  | .checksum v =>
    { flagsOfAcceptance s with
      opl := encodeOpcode c, phase := .run
      acc := entryValue (variantFamily v) s.crc, ptr := s.srcValue.setWidth 33, rem := s.len }

/-- A command request, with what `decode` says of its word: the busy check, the decode, the range check, in that order
(R192, R216). -/
def commandRequest (decoded : Except DecodeError Command) (s : State) : Outcome :=
  if s.busy then .next (raiseError .busy s)
  else
    match decoded with
    | .error _ => .next (reject .illegal s)
    | .ok .initTables => .next (accept .initTables s)
    | .ok (.checksum v) =>
      if rangeOk s then .next (accept (.checksum v) s) else .next (reject .range s)

/-- The request a command row stands for: the host writes the command's word to `CMD` (R70, R79 `cmd M`). -/
def requestOf (c : Command) (s : State) : Outcome := commandRequest (checkImplemented s.cfg.implemented c) s

/-! ## What every unit of a running command shares -/

/-- The finish unit of a checksum command of family `f` (R199). -/
def finish (f : Family) (s : State) : State := flagsOfFinish { s with crc := exitValue f s.acc }

/-- The abort of a running command whose byte read answers `BusError` (R214). -/
def abort (s : State) : State := flagsOfAbort (raiseError .bus s)

/-- `PTR <- PTR + n ; REM <- REM − n` (R31, R33). -/
def consume (n : Nat) (s : State) : State := { s with ptr := s.ptr + BitVec.ofNat 33 n, rem := s.rem - BitVec.ofNat 32 n }

/-- A unit that reads the next `n` bytes: `update` puts the new `ACC` in place and the bytes are consumed (R197). On
`BusError` the command aborts, with `ACC`, `PTR` and `REM` as they were (R214); if the memory never answers, the engine is
stuck: nothing changes (R201, spec/93_implementation_defined.md I5). -/
def unitOver (n : Nat) (update : List Byte → State → State) (s : State) : Outcome :=
  match memRead s s.ptr.toNat n with
  | .data c => .next (consume n (update c s))
  | .busError => .next (abort s)
  | .noAnswer => .next s

/-- `ACC <- f(ACC)`. -/
def updateAcc (f : Word → Word) (s : State) : State := { s with acc := f s.acc }

/-- `ACC <- f(T_Z, ACC)`, and a draw while TBL_VALID = 0: the entries the unit reads are unspecified, and so is the
accumulator (R198; log entry 8). -/
def updateAccFromTz (f : Table → Word → Word) (s : State) : State :=
  if s.tblValid then { s with acc := f (tzRead s.tz) s.acc }
  else { s with acc := Config.freeWord s.draws, draws := s.draws + 1 }

end Sys2Proof.Machine
end

