-- ==== Sys2Proof/Machine/HostReads.lean ====
section
/-!
DEFINITION. The host read transactions, one meaning per descriptor 0x00 to 0x3F (spec/44_interface_and_sequencer.md R190).
Each is a line over the shared operation `hostRead`, which returns the register's word and changes nothing else.
-/

namespace Sys2Proof.Machine

/-- `rd CMD` (R190). -/
def execRdCmd (s : State) : Outcome := hostRead 0 s

/-- `rd STATUS` (R190). -/
def execRdStatus (s : State) : Outcome := hostRead 1 s

/-- `rd SRC` (R190). -/
def execRdSrc (s : State) : Outcome := hostRead 2 s

/-- `rd LEN` (R190). -/
def execRdLen (s : State) : Outcome := hostRead 3 s

/-- `rd CRC` (R190). -/
def execRdCrc (s : State) : Outcome := hostRead 4 s

/-! The reserved indices 5 to 63 read as zero (R190, R39). -/

def execRdRsvd5 (s : State) : Outcome := hostRead 5 s
def execRdRsvd6 (s : State) : Outcome := hostRead 6 s
def execRdRsvd7 (s : State) : Outcome := hostRead 7 s
def execRdRsvd8 (s : State) : Outcome := hostRead 8 s
def execRdRsvd9 (s : State) : Outcome := hostRead 9 s
def execRdRsvd10 (s : State) : Outcome := hostRead 10 s
def execRdRsvd11 (s : State) : Outcome := hostRead 11 s
def execRdRsvd12 (s : State) : Outcome := hostRead 12 s
def execRdRsvd13 (s : State) : Outcome := hostRead 13 s
def execRdRsvd14 (s : State) : Outcome := hostRead 14 s
def execRdRsvd15 (s : State) : Outcome := hostRead 15 s
def execRdRsvd16 (s : State) : Outcome := hostRead 16 s
def execRdRsvd17 (s : State) : Outcome := hostRead 17 s
def execRdRsvd18 (s : State) : Outcome := hostRead 18 s
def execRdRsvd19 (s : State) : Outcome := hostRead 19 s
def execRdRsvd20 (s : State) : Outcome := hostRead 20 s
def execRdRsvd21 (s : State) : Outcome := hostRead 21 s
def execRdRsvd22 (s : State) : Outcome := hostRead 22 s
def execRdRsvd23 (s : State) : Outcome := hostRead 23 s
def execRdRsvd24 (s : State) : Outcome := hostRead 24 s
def execRdRsvd25 (s : State) : Outcome := hostRead 25 s
def execRdRsvd26 (s : State) : Outcome := hostRead 26 s
def execRdRsvd27 (s : State) : Outcome := hostRead 27 s
def execRdRsvd28 (s : State) : Outcome := hostRead 28 s
def execRdRsvd29 (s : State) : Outcome := hostRead 29 s
def execRdRsvd30 (s : State) : Outcome := hostRead 30 s
def execRdRsvd31 (s : State) : Outcome := hostRead 31 s
def execRdRsvd32 (s : State) : Outcome := hostRead 32 s
def execRdRsvd33 (s : State) : Outcome := hostRead 33 s
def execRdRsvd34 (s : State) : Outcome := hostRead 34 s
def execRdRsvd35 (s : State) : Outcome := hostRead 35 s
def execRdRsvd36 (s : State) : Outcome := hostRead 36 s
def execRdRsvd37 (s : State) : Outcome := hostRead 37 s
def execRdRsvd38 (s : State) : Outcome := hostRead 38 s
def execRdRsvd39 (s : State) : Outcome := hostRead 39 s
def execRdRsvd40 (s : State) : Outcome := hostRead 40 s
def execRdRsvd41 (s : State) : Outcome := hostRead 41 s
def execRdRsvd42 (s : State) : Outcome := hostRead 42 s
def execRdRsvd43 (s : State) : Outcome := hostRead 43 s
def execRdRsvd44 (s : State) : Outcome := hostRead 44 s
def execRdRsvd45 (s : State) : Outcome := hostRead 45 s
def execRdRsvd46 (s : State) : Outcome := hostRead 46 s
def execRdRsvd47 (s : State) : Outcome := hostRead 47 s
def execRdRsvd48 (s : State) : Outcome := hostRead 48 s
def execRdRsvd49 (s : State) : Outcome := hostRead 49 s
def execRdRsvd50 (s : State) : Outcome := hostRead 50 s
def execRdRsvd51 (s : State) : Outcome := hostRead 51 s
def execRdRsvd52 (s : State) : Outcome := hostRead 52 s
def execRdRsvd53 (s : State) : Outcome := hostRead 53 s
def execRdRsvd54 (s : State) : Outcome := hostRead 54 s
def execRdRsvd55 (s : State) : Outcome := hostRead 55 s
def execRdRsvd56 (s : State) : Outcome := hostRead 56 s
def execRdRsvd57 (s : State) : Outcome := hostRead 57 s
def execRdRsvd58 (s : State) : Outcome := hostRead 58 s
def execRdRsvd59 (s : State) : Outcome := hostRead 59 s
def execRdRsvd60 (s : State) : Outcome := hostRead 60 s
def execRdRsvd61 (s : State) : Outcome := hostRead 61 s
def execRdRsvd62 (s : State) : Outcome := hostRead 62 s
def execRdRsvd63 (s : State) : Outcome := hostRead 63 s

end Sys2Proof.Machine
end

