-- ==== Sys2Proof/Machine/HostWrites.lean ====
section
/-!
DEFINITION. The host write transactions, one meaning per descriptor 0x40 to 0x7F (spec/44_interface_and_sequencer.md R191,
R192, R196), each a line over a shared operation.
-/

namespace Sys2Proof.Machine

/-- `wr CMD, w` (R192): a command request, checked busy first, then decoded, then range-checked. -/
def execWrCmd (data : Word) (s : State) : Outcome := commandRequest (decodeCommand s.cfg.implemented data) s

/-- `wr STATUS, v` (R196): ignored at all times, no error. -/
def execWrStatus (data : Word) (s : State) : Outcome := ignoredWrite data s

/-- `wr SRC, v` (R191, R27). -/
def execWrSrc (data : Word) (s : State) : Outcome := registerWrite (fun t => t.setSrc data) s

/-- `wr LEN, v` (R191, R28). -/
def execWrLen (data : Word) (s : State) : Outcome := registerWrite (fun t => t.setLen data) s

/-- `wr CRC, v` (R191, R29). -/
def execWrCrc (data : Word) (s : State) : Outcome := registerWrite (fun t => t.setCrc data) s

/-! The reserved indices 5 to 63 ignore writes and raise no error, busy or not (R196, R39). -/

def execWrRsvd5 (data : Word) (s : State) : Outcome := ignoredWrite data s
def execWrRsvd6 (data : Word) (s : State) : Outcome := ignoredWrite data s
def execWrRsvd7 (data : Word) (s : State) : Outcome := ignoredWrite data s
def execWrRsvd8 (data : Word) (s : State) : Outcome := ignoredWrite data s
def execWrRsvd9 (data : Word) (s : State) : Outcome := ignoredWrite data s
def execWrRsvd10 (data : Word) (s : State) : Outcome := ignoredWrite data s
def execWrRsvd11 (data : Word) (s : State) : Outcome := ignoredWrite data s
def execWrRsvd12 (data : Word) (s : State) : Outcome := ignoredWrite data s
def execWrRsvd13 (data : Word) (s : State) : Outcome := ignoredWrite data s
def execWrRsvd14 (data : Word) (s : State) : Outcome := ignoredWrite data s
def execWrRsvd15 (data : Word) (s : State) : Outcome := ignoredWrite data s
def execWrRsvd16 (data : Word) (s : State) : Outcome := ignoredWrite data s
def execWrRsvd17 (data : Word) (s : State) : Outcome := ignoredWrite data s
def execWrRsvd18 (data : Word) (s : State) : Outcome := ignoredWrite data s
def execWrRsvd19 (data : Word) (s : State) : Outcome := ignoredWrite data s
def execWrRsvd20 (data : Word) (s : State) : Outcome := ignoredWrite data s
def execWrRsvd21 (data : Word) (s : State) : Outcome := ignoredWrite data s
def execWrRsvd22 (data : Word) (s : State) : Outcome := ignoredWrite data s
def execWrRsvd23 (data : Word) (s : State) : Outcome := ignoredWrite data s
def execWrRsvd24 (data : Word) (s : State) : Outcome := ignoredWrite data s
def execWrRsvd25 (data : Word) (s : State) : Outcome := ignoredWrite data s
def execWrRsvd26 (data : Word) (s : State) : Outcome := ignoredWrite data s
def execWrRsvd27 (data : Word) (s : State) : Outcome := ignoredWrite data s
def execWrRsvd28 (data : Word) (s : State) : Outcome := ignoredWrite data s
def execWrRsvd29 (data : Word) (s : State) : Outcome := ignoredWrite data s
def execWrRsvd30 (data : Word) (s : State) : Outcome := ignoredWrite data s
def execWrRsvd31 (data : Word) (s : State) : Outcome := ignoredWrite data s
def execWrRsvd32 (data : Word) (s : State) : Outcome := ignoredWrite data s
def execWrRsvd33 (data : Word) (s : State) : Outcome := ignoredWrite data s
def execWrRsvd34 (data : Word) (s : State) : Outcome := ignoredWrite data s
def execWrRsvd35 (data : Word) (s : State) : Outcome := ignoredWrite data s
def execWrRsvd36 (data : Word) (s : State) : Outcome := ignoredWrite data s
def execWrRsvd37 (data : Word) (s : State) : Outcome := ignoredWrite data s
def execWrRsvd38 (data : Word) (s : State) : Outcome := ignoredWrite data s
def execWrRsvd39 (data : Word) (s : State) : Outcome := ignoredWrite data s
def execWrRsvd40 (data : Word) (s : State) : Outcome := ignoredWrite data s
def execWrRsvd41 (data : Word) (s : State) : Outcome := ignoredWrite data s
def execWrRsvd42 (data : Word) (s : State) : Outcome := ignoredWrite data s
def execWrRsvd43 (data : Word) (s : State) : Outcome := ignoredWrite data s
def execWrRsvd44 (data : Word) (s : State) : Outcome := ignoredWrite data s
def execWrRsvd45 (data : Word) (s : State) : Outcome := ignoredWrite data s
def execWrRsvd46 (data : Word) (s : State) : Outcome := ignoredWrite data s
def execWrRsvd47 (data : Word) (s : State) : Outcome := ignoredWrite data s
def execWrRsvd48 (data : Word) (s : State) : Outcome := ignoredWrite data s
def execWrRsvd49 (data : Word) (s : State) : Outcome := ignoredWrite data s
def execWrRsvd50 (data : Word) (s : State) : Outcome := ignoredWrite data s
def execWrRsvd51 (data : Word) (s : State) : Outcome := ignoredWrite data s
def execWrRsvd52 (data : Word) (s : State) : Outcome := ignoredWrite data s
def execWrRsvd53 (data : Word) (s : State) : Outcome := ignoredWrite data s
def execWrRsvd54 (data : Word) (s : State) : Outcome := ignoredWrite data s
def execWrRsvd55 (data : Word) (s : State) : Outcome := ignoredWrite data s
def execWrRsvd56 (data : Word) (s : State) : Outcome := ignoredWrite data s
def execWrRsvd57 (data : Word) (s : State) : Outcome := ignoredWrite data s
def execWrRsvd58 (data : Word) (s : State) : Outcome := ignoredWrite data s
def execWrRsvd59 (data : Word) (s : State) : Outcome := ignoredWrite data s
def execWrRsvd60 (data : Word) (s : State) : Outcome := ignoredWrite data s
def execWrRsvd61 (data : Word) (s : State) : Outcome := ignoredWrite data s
def execWrRsvd62 (data : Word) (s : State) : Outcome := ignoredWrite data s
def execWrRsvd63 (data : Word) (s : State) : Outcome := ignoredWrite data s

end Sys2Proof.Machine
end

