-- ==== Sys2Proof/Machine/Datapath.lean ====
section
/-!
DEFINITION. The datapaths: the three byte units and the reference functions (spec/41_reference_engines.md), and the slicing
base block step (spec/42_slicing_crc32.md). Each is a pure function of the accumulator and the bytes read.
-/

namespace Sys2Proof.Machine

/-! ## Byte units -/

/-- The branch-free bit iteration of the bit-serial datapath (R120). -/
def bitstepMask (p c : Word) : Word := (c >>> 1) ^^^ (p &&& -(c &&& 1))

/-- The bitwise byte unit `bw_byte_P` (R121). -/
def bitwiseByte (p acc : Word) (d : Byte) : Word := iterate (bitstepMask p) 8 (acc ^^^ d.setWidth 32)

/-- One nibble step: `(acc >> 4) ^ T_Z[0][((acc ^ n) & 0xF) << 4]` (R122). -/
def nibbleStep (t : Table) (acc : Word) (n : Byte) : Word :=
  (acc >>> 4) ^^^ t 0 ((((acc ^^^ n.setWidth 32) &&& 0xF) <<< 4).setWidth 8)

/-- The half-byte byte unit, the low nibble first (R122). -/
def halfByte (t : Table) (acc : Word) (d : Byte) : Word := nibbleStep t (nibbleStep t acc (d &&& 0xF)) (d >>> 4)

/-- The byte-at-once byte unit `byte_T`: `(acc >> 8) ^ T[0][(acc ^ d) & 0xFF]` (R123). -/
def byteAtOnce (t : Table) (acc : Word) (d : Byte) : Word := (acc >>> 8) ^^^ t 0 ((acc ^^^ d.setWidth 32).setWidth 8)

/-! ## Reference functions -/

/-- `ref_Z(c, s) = ~fold(bw_byte_{P_Z}, ~c, s)` (R128). -/
def refZlib (c : Word) (bytes : List Byte) : Word := ~~~(bytes.foldl (bitwiseByte polyZlib) (~~~c))

/-- `ref_C(c, s) = fold(bw_byte_{P_C}, c, s)`, with no complement (R129). -/
def refCastagnoli (c : Word) (bytes : List Byte) : Word := bytes.foldl (bitwiseByte polyCastagnoli) c

/-- The standard CRC32C continuing from a standard value `v`: what the host obtains by its duty of complementing what it
writes and what it reads (spec/43_slicing_crc32c.md R178). The block computes only `refCastagnoli`. -/
def standardCrc32c (v : Word) (bytes : List Byte) : Word := ~~~(refCastagnoli (~~~v) bytes)

/-- The reflected polynomial of a family (R7, R8). -/
def polyOf : Family → Word
  | .zlib => polyZlib
  | .castagnoli => polyCastagnoli

/-- The reference function of a family. -/
def refOf : Family → Word → List Byte → Word
  | .zlib => refZlib
  | .castagnoli => refCastagnoli

/-! ## The slicing base block -/

/-- The lookups of one word of a block whose lane 0 reads level `top`: `T[top−l][lane(w, l)]` over l in 0..3 (R142). -/
def wordLookups (t : Table) (top : Nat) (w : Word) : Word :=
  t top (lane w 0) ^^^ t (top - 1) (lane w 1) ^^^ t (top - 2) (lane w 2) ^^^ t (top - 3) (lane w 3)

/-- The XOR of the lookups of successive words: word k lane l reads level `S − 1 − 4k − l` (R142). -/
def blockLookups (t : Table) : Nat → List Word → Word
  | _, [] => 0
  | top, w :: ws => wordLookups t top w ^^^ blockLookups t (top - 4) ws

/-- The base block step `blk_{T,S}` in word form: the first word is XORed with the accumulator (R142). -/
def blockStep (t : Table) (depth : Nat) (acc : Word) : List Word → Word
  | [] => 0
  | w0 :: ws => blockLookups t (depth - 1) ((w0 ^^^ acc) :: ws)

/-- The datapath of an iteration: `unroll` base blocks of `depth` bytes one after another, each with the accumulator the
previous one left (R144). -/
def iteration (bigEndian : Bool) (t : Table) (depth : Nat) : Nat → Word → List Byte → Word
  | 0, acc, _ => acc
  | unroll + 1, acc, c =>
    iteration bigEndian t depth unroll (blockStep t depth acc (laneWords bigEndian (c.take depth))) (c.drop depth)

end Sys2Proof.Machine
end

