-- ==== Sys2Proof/Machine/ReferenceEngines.lean ====
section
/-!
DEFINITION. The three zlib reference commands (spec/41_reference_engines.md): one unit per byte, then the finish. For each
command, `exec…` is its request (the host writes its word to `CMD`) and `unit…` its next engine unit once accepted.
-/

namespace Sys2Proof.Machine

/-- `CRC32_BITWISE` (R125): the request. -/
def execCrc32Bitwise (s : State) : Outcome := requestOf (.checksum .bitwise) s

/-- The next unit of a running `CRC32_BITWISE`: a bit-serial byte, which reads no table, or the finish (R125, R121, R197). -/
def unitCrc32Bitwise (s : State) : Outcome :=
  if s.rem = 0 then .next (finish .zlib s)
  else unitOver 1 (fun c => updateAcc fun acc => c.foldl (bitwiseByte polyZlib) acc) s

/-- `CRC32_HALFBYTE` (R126): the request. -/
def execCrc32Halfbyte (s : State) : Outcome := requestOf (.checksum .halfbyte) s

/-- The next unit of a running `CRC32_HALFBYTE`: a half-byte byte over `T_Z[0]`, or the finish (R126, R122, R197). -/
def unitCrc32Halfbyte (s : State) : Outcome :=
  if s.rem = 0 then .next (finish .zlib s)
  else unitOver 1 (fun c => updateAccFromTz fun t acc => c.foldl (halfByte t) acc) s

/-- `CRC32_BYTE` (R127): the request. -/
def execCrc32Byte (s : State) : Outcome := requestOf (.checksum .byte) s

/-- The next unit of a running `CRC32_BYTE`: a byte-at-once byte over `T_Z[0]`, or the finish (R127, R123, R197). -/
def unitCrc32Byte (s : State) : Outcome :=
  if s.rem = 0 then .next (finish .zlib s)
  else unitOver 1 (fun c => updateAccFromTz fun t acc => c.foldl (byteAtOnce t) acc) s

end Sys2Proof.Machine
end

