-- ==== Sys2Proof/Machine/SlicingCastagnoli.lean ====
section
/-!
DEFINITION. The six Castagnoli slicing commands (spec/43_slicing_crc32c.md): byte-at-once up to the first 4-aligned address, then
iterations of B bytes while REM ≥ B, then byte-at-once on the tail, then the finish, over the ROM `T_C` and with no complement
(R170 to R172). For each command, `exec…` is its request and `unit…` its next engine unit.
-/

namespace Sys2Proof.Machine

/-- A byte-at-once byte over `T_C`: prologue or tail (R171, R175). -/
def castagnoliByteUnit (s : State) : Outcome :=
  unitOver 1 (fun c => updateAcc fun acc => c.foldl (byteAtOnce tcRead) acc) s

/-- The next unit of a running Castagnoli command of iteration size `size`, whose iteration changes `ACC` by `step` (R172,
R197). -/
def castagnoliUnit (size : Nat) (step : Word → List Byte → Word) (s : State) : Outcome :=
  if s.rem = 0 then .next (finish .castagnoli s)
  else if s.ptr.toNat % 4 ≠ 0 then castagnoliByteUnit s
  else if size ≤ s.rem.toNat then unitOver size (fun c => updateAcc fun acc => step acc c) s
  else castagnoliByteUnit s

/-- A Castagnoli slicing unit of base block `depth` and unroll multiple `unroll` over `T_C` (R174). -/
def castagnoliSlicingUnit (depth unroll : Nat) (s : State) : Outcome :=
  castagnoliUnit (unroll * depth) (iteration s.cfg.hostBigEndian tcRead depth unroll) s

/-- The unit of the two wide commands: the iteration's value is the byte-serial fold; its datapath is implementation-defined
and no result depends on it (R176; log entry 15). -/
def castagnoliWideUnit (size : Nat) (s : State) : Outcome :=
  castagnoliUnit size (fun acc c => c.foldl (byteAtOnce tcRead) acc) s

/-- `CRC32C_SLICING4` (R180): the request. -/
def execCrc32cSlicing4 (s : State) : Outcome := requestOf (.checksum .cSlicing4) s

/-- The next unit of a running `CRC32C_SLICING4`: B = 4, S = 4, U = 1 (R180). -/
def unitCrc32cSlicing4 (s : State) : Outcome := castagnoliSlicingUnit 4 1 s

/-- `CRC32C_SLICING2X4` (R181): the request. -/
def execCrc32cSlicing2x4 (s : State) : Outcome := requestOf (.checksum .cSlicing2x4) s

/-- The next unit of a running `CRC32C_SLICING2X4`: B = 8, S = 4, U = 2 (R181). -/
def unitCrc32cSlicing2x4 (s : State) : Outcome := castagnoliSlicingUnit 4 2 s

/-- `CRC32C_SLICING4X4` (R182): the request. -/
def execCrc32cSlicing4x4 (s : State) : Outcome := requestOf (.checksum .cSlicing4x4) s

/-- The next unit of a running `CRC32C_SLICING4X4`: B = 16, S = 4, U = 4 (R182). -/
def unitCrc32cSlicing4x4 (s : State) : Outcome := castagnoliSlicingUnit 4 4 s

/-- `CRC32C_SLICING8` (R183): the request. -/
def execCrc32cSlicing8 (s : State) : Outcome := requestOf (.checksum .cSlicing8) s

/-- The next unit of a running `CRC32C_SLICING8`: B = 8, S = 8, U = 1 (R183). -/
def unitCrc32cSlicing8 (s : State) : Outcome := castagnoliSlicingUnit 8 1 s

/-- `CRC32C_SLICING16` (R184): the request. -/
def execCrc32cSlicing16 (s : State) : Outcome := requestOf (.checksum .cSlicing16) s

/-- The next unit of a running `CRC32C_SLICING16`: B = 16 (R184). -/
def unitCrc32cSlicing16 (s : State) : Outcome := castagnoliWideUnit 16 s

/-- `CRC32C_SLICING32` (R185): the request. -/
def execCrc32cSlicing32 (s : State) : Outcome := requestOf (.checksum .cSlicing32) s

/-- The next unit of a running `CRC32C_SLICING32`: B = 32 (R185). -/
def unitCrc32cSlicing32 (s : State) : Outcome := castagnoliWideUnit 32 s

end Sys2Proof.Machine
end

