-- ==== Sys2Proof/Machine/SlicingZlib.lean ====
section
/-!
DEFINITION. The eight zlib slicing commands (spec/42_slicing_crc32.md): iterations of B = unroll × depth bytes while REM ≥ B, then
byte-at-once on the tail, then the finish (R140). For each command, `exec…` is its request and `unit…` its next engine unit.
-/

namespace Sys2Proof.Machine

/-- The next unit of a running zlib slicing command of base block `depth` and unroll multiple `unroll` (R140, R144, R145,
R197). There is no alignment prologue. -/
def zlibSlicingUnit (depth unroll : Nat) (s : State) : Outcome :=
  if s.rem = 0 then .next (finish .zlib s)
  else if unroll * depth ≤ s.rem.toNat then
    unitOver (unroll * depth) (fun c => updateAccFromTz fun t acc => iteration s.cfg.hostBigEndian t depth unroll acc c) s
  else unitOver 1 (fun c => updateAccFromTz fun t acc => c.foldl (byteAtOnce t) acc) s

/-- `CRC32_SLICING4` (R150): the request. -/
def execCrc32Slicing4 (s : State) : Outcome := requestOf (.checksum .slicing4) s

/-- The next unit of a running `CRC32_SLICING4`: B = 4, S = 4, U = 1 (R150). -/
def unitCrc32Slicing4 (s : State) : Outcome := zlibSlicingUnit 4 1 s

/-- `CRC32_SLICING2X4` (R151): the request. -/
def execCrc32Slicing2x4 (s : State) : Outcome := requestOf (.checksum .slicing2x4) s

/-- The next unit of a running `CRC32_SLICING2X4`: B = 8, S = 4, U = 2 (R151). -/
def unitCrc32Slicing2x4 (s : State) : Outcome := zlibSlicingUnit 4 2 s

/-- `CRC32_SLICING4X4` (R152): the request. -/
def execCrc32Slicing4x4 (s : State) : Outcome := requestOf (.checksum .slicing4x4) s

/-- The next unit of a running `CRC32_SLICING4X4`: B = 16, S = 4, U = 4 (R152). -/
def unitCrc32Slicing4x4 (s : State) : Outcome := zlibSlicingUnit 4 4 s

/-- `CRC32_SLICING8` (R153): the request. -/
def execCrc32Slicing8 (s : State) : Outcome := requestOf (.checksum .slicing8) s

/-- The next unit of a running `CRC32_SLICING8`: B = 8, S = 8, U = 1 (R153). -/
def unitCrc32Slicing8 (s : State) : Outcome := zlibSlicingUnit 8 1 s

/-- `CRC32_SLICING16` (R154): the request. -/
def execCrc32Slicing16 (s : State) : Outcome := requestOf (.checksum .slicing16) s

/-- The next unit of a running `CRC32_SLICING16`: B = 16, S = 16, U = 1 (R154). -/
def unitCrc32Slicing16 (s : State) : Outcome := zlibSlicingUnit 16 1 s

/-- `CRC32_SLICING2X16` (R155): the request. -/
def execCrc32Slicing2x16 (s : State) : Outcome := requestOf (.checksum .slicing2x16) s

/-- The next unit of a running `CRC32_SLICING2X16`: B = 32, S = 16, U = 2 (R155). -/
def unitCrc32Slicing2x16 (s : State) : Outcome := zlibSlicingUnit 16 2 s

/-- `CRC32_SLICING2X8` (R156): the request. -/
def execCrc32Slicing2x8 (s : State) : Outcome := requestOf (.checksum .slicing2x8) s

/-- The next unit of a running `CRC32_SLICING2X8`: B = 16, S = 8, U = 2 (R156). -/
def unitCrc32Slicing2x8 (s : State) : Outcome := zlibSlicingUnit 8 2 s

/-- `CRC32_SLICING4X8` (R157): the request. -/
def execCrc32Slicing4x8 (s : State) : Outcome := requestOf (.checksum .slicing4x8) s

/-- The next unit of a running `CRC32_SLICING4X8`: B = 32, S = 8, U = 4 (R157). -/
def unitCrc32Slicing4x8 (s : State) : Outcome := zlibSlicingUnit 8 4 s

end Sys2Proof.Machine
end

