-- ==== Sys2Proof/Machine/TableBuild.lean ====
section
/-!
DEFINITION. The table builder (spec/40_table_builder.md): the `INIT_TABLES` command and its table-build unit.
-/

namespace Sys2Proof.Machine

/-- `INIT_TABLES` (R106): the request, which when accepted latches the opcode, clears `TBL_VALID` and enters PHASE = INIT
(R194). Its one unit is `unitInitTables`. -/
def execInitTables (s : State) : Outcome := requestOf .initTables s

/-- The table-build unit, which is also the finish of `INIT_TABLES`, one transition (R106): it writes all of `T_Z`. -/
def unitInitTables (s : State) : Outcome := .next (flagsOfFinish { s with tz := builtTables, tblValid := true })

end Sys2Proof.Machine
end

