-- ==== Sys2Proof/Machine/Dispatch.lean ====
section
/-! DEFINITION. The dispatch: one arm per instruction, each one direct call of that instruction's meaning. -/

namespace Sys2Proof.Machine

def exec (i : Instr) (s : State) : Host.Outcome State Fault Refusal :=
  match i with
  | .initTables => Sys2Proof.Machine.execInitTables s
  | .crc32Bitwise => Sys2Proof.Machine.execCrc32Bitwise s
  | .crc32Halfbyte => Sys2Proof.Machine.execCrc32Halfbyte s
  | .crc32Byte => Sys2Proof.Machine.execCrc32Byte s
  | .crc32Slicing4 => Sys2Proof.Machine.execCrc32Slicing4 s
  | .crc32Slicing2x4 => Sys2Proof.Machine.execCrc32Slicing2x4 s
  | .crc32Slicing4x4 => Sys2Proof.Machine.execCrc32Slicing4x4 s
  | .crc32Slicing8 => Sys2Proof.Machine.execCrc32Slicing8 s
  | .crc32Slicing16 => Sys2Proof.Machine.execCrc32Slicing16 s
  | .crc32Slicing2x16 => Sys2Proof.Machine.execCrc32Slicing2x16 s
  | .crc32Slicing2x8 => Sys2Proof.Machine.execCrc32Slicing2x8 s
  | .crc32Slicing4x8 => Sys2Proof.Machine.execCrc32Slicing4x8 s
  | .crc32cSlicing4 => Sys2Proof.Machine.execCrc32cSlicing4 s
  | .crc32cSlicing2x4 => Sys2Proof.Machine.execCrc32cSlicing2x4 s
  | .crc32cSlicing4x4 => Sys2Proof.Machine.execCrc32cSlicing4x4 s
  | .crc32cSlicing8 => Sys2Proof.Machine.execCrc32cSlicing8 s
  | .crc32cSlicing16 => Sys2Proof.Machine.execCrc32cSlicing16 s
  | .crc32cSlicing32 => Sys2Proof.Machine.execCrc32cSlicing32 s
  | .rdCmd => Sys2Proof.Machine.execRdCmd s
  | .rdStatus => Sys2Proof.Machine.execRdStatus s
  | .rdSrc => Sys2Proof.Machine.execRdSrc s
  | .rdLen => Sys2Proof.Machine.execRdLen s
  | .rdCrc => Sys2Proof.Machine.execRdCrc s
  | .wrCmd data => Sys2Proof.Machine.execWrCmd data s
  | .wrStatus data => Sys2Proof.Machine.execWrStatus data s
  | .wrSrc data => Sys2Proof.Machine.execWrSrc data s
  | .wrLen data => Sys2Proof.Machine.execWrLen data s
  | .wrCrc data => Sys2Proof.Machine.execWrCrc data s
  | .rdRsvd5 => Sys2Proof.Machine.execRdRsvd5 s
  | .rdRsvd6 => Sys2Proof.Machine.execRdRsvd6 s
  | .rdRsvd7 => Sys2Proof.Machine.execRdRsvd7 s
  | .rdRsvd8 => Sys2Proof.Machine.execRdRsvd8 s
  | .rdRsvd9 => Sys2Proof.Machine.execRdRsvd9 s
  | .rdRsvd10 => Sys2Proof.Machine.execRdRsvd10 s
  | .rdRsvd11 => Sys2Proof.Machine.execRdRsvd11 s
  | .rdRsvd12 => Sys2Proof.Machine.execRdRsvd12 s
  | .rdRsvd13 => Sys2Proof.Machine.execRdRsvd13 s
  | .rdRsvd14 => Sys2Proof.Machine.execRdRsvd14 s
  | .rdRsvd15 => Sys2Proof.Machine.execRdRsvd15 s
  | .rdRsvd16 => Sys2Proof.Machine.execRdRsvd16 s
  | .rdRsvd17 => Sys2Proof.Machine.execRdRsvd17 s
  | .rdRsvd18 => Sys2Proof.Machine.execRdRsvd18 s
  | .rdRsvd19 => Sys2Proof.Machine.execRdRsvd19 s
  | .rdRsvd20 => Sys2Proof.Machine.execRdRsvd20 s
  | .rdRsvd21 => Sys2Proof.Machine.execRdRsvd21 s
  | .rdRsvd22 => Sys2Proof.Machine.execRdRsvd22 s
  | .rdRsvd23 => Sys2Proof.Machine.execRdRsvd23 s
  | .rdRsvd24 => Sys2Proof.Machine.execRdRsvd24 s
  | .rdRsvd25 => Sys2Proof.Machine.execRdRsvd25 s
  | .rdRsvd26 => Sys2Proof.Machine.execRdRsvd26 s
  | .rdRsvd27 => Sys2Proof.Machine.execRdRsvd27 s
  | .rdRsvd28 => Sys2Proof.Machine.execRdRsvd28 s
  | .rdRsvd29 => Sys2Proof.Machine.execRdRsvd29 s
  | .rdRsvd30 => Sys2Proof.Machine.execRdRsvd30 s
  | .rdRsvd31 => Sys2Proof.Machine.execRdRsvd31 s
  | .rdRsvd32 => Sys2Proof.Machine.execRdRsvd32 s
  | .rdRsvd33 => Sys2Proof.Machine.execRdRsvd33 s
  | .rdRsvd34 => Sys2Proof.Machine.execRdRsvd34 s
  | .rdRsvd35 => Sys2Proof.Machine.execRdRsvd35 s
  | .rdRsvd36 => Sys2Proof.Machine.execRdRsvd36 s
  | .rdRsvd37 => Sys2Proof.Machine.execRdRsvd37 s
  | .rdRsvd38 => Sys2Proof.Machine.execRdRsvd38 s
  | .rdRsvd39 => Sys2Proof.Machine.execRdRsvd39 s
  | .rdRsvd40 => Sys2Proof.Machine.execRdRsvd40 s
  | .rdRsvd41 => Sys2Proof.Machine.execRdRsvd41 s
  | .rdRsvd42 => Sys2Proof.Machine.execRdRsvd42 s
  | .rdRsvd43 => Sys2Proof.Machine.execRdRsvd43 s
  | .rdRsvd44 => Sys2Proof.Machine.execRdRsvd44 s
  | .rdRsvd45 => Sys2Proof.Machine.execRdRsvd45 s
  | .rdRsvd46 => Sys2Proof.Machine.execRdRsvd46 s
  | .rdRsvd47 => Sys2Proof.Machine.execRdRsvd47 s
  | .rdRsvd48 => Sys2Proof.Machine.execRdRsvd48 s
  | .rdRsvd49 => Sys2Proof.Machine.execRdRsvd49 s
  | .rdRsvd50 => Sys2Proof.Machine.execRdRsvd50 s
  | .rdRsvd51 => Sys2Proof.Machine.execRdRsvd51 s
  | .rdRsvd52 => Sys2Proof.Machine.execRdRsvd52 s
  | .rdRsvd53 => Sys2Proof.Machine.execRdRsvd53 s
  | .rdRsvd54 => Sys2Proof.Machine.execRdRsvd54 s
  | .rdRsvd55 => Sys2Proof.Machine.execRdRsvd55 s
  | .rdRsvd56 => Sys2Proof.Machine.execRdRsvd56 s
  | .rdRsvd57 => Sys2Proof.Machine.execRdRsvd57 s
  | .rdRsvd58 => Sys2Proof.Machine.execRdRsvd58 s
  | .rdRsvd59 => Sys2Proof.Machine.execRdRsvd59 s
  | .rdRsvd60 => Sys2Proof.Machine.execRdRsvd60 s
  | .rdRsvd61 => Sys2Proof.Machine.execRdRsvd61 s
  | .rdRsvd62 => Sys2Proof.Machine.execRdRsvd62 s
  | .rdRsvd63 => Sys2Proof.Machine.execRdRsvd63 s
  | .wrRsvd5 data => Sys2Proof.Machine.execWrRsvd5 data s
  | .wrRsvd6 data => Sys2Proof.Machine.execWrRsvd6 data s
  | .wrRsvd7 data => Sys2Proof.Machine.execWrRsvd7 data s
  | .wrRsvd8 data => Sys2Proof.Machine.execWrRsvd8 data s
  | .wrRsvd9 data => Sys2Proof.Machine.execWrRsvd9 data s
  | .wrRsvd10 data => Sys2Proof.Machine.execWrRsvd10 data s
  | .wrRsvd11 data => Sys2Proof.Machine.execWrRsvd11 data s
  | .wrRsvd12 data => Sys2Proof.Machine.execWrRsvd12 data s
  | .wrRsvd13 data => Sys2Proof.Machine.execWrRsvd13 data s
  | .wrRsvd14 data => Sys2Proof.Machine.execWrRsvd14 data s
  | .wrRsvd15 data => Sys2Proof.Machine.execWrRsvd15 data s
  | .wrRsvd16 data => Sys2Proof.Machine.execWrRsvd16 data s
  | .wrRsvd17 data => Sys2Proof.Machine.execWrRsvd17 data s
  | .wrRsvd18 data => Sys2Proof.Machine.execWrRsvd18 data s
  | .wrRsvd19 data => Sys2Proof.Machine.execWrRsvd19 data s
  | .wrRsvd20 data => Sys2Proof.Machine.execWrRsvd20 data s
  | .wrRsvd21 data => Sys2Proof.Machine.execWrRsvd21 data s
  | .wrRsvd22 data => Sys2Proof.Machine.execWrRsvd22 data s
  | .wrRsvd23 data => Sys2Proof.Machine.execWrRsvd23 data s
  | .wrRsvd24 data => Sys2Proof.Machine.execWrRsvd24 data s
  | .wrRsvd25 data => Sys2Proof.Machine.execWrRsvd25 data s
  | .wrRsvd26 data => Sys2Proof.Machine.execWrRsvd26 data s
  | .wrRsvd27 data => Sys2Proof.Machine.execWrRsvd27 data s
  | .wrRsvd28 data => Sys2Proof.Machine.execWrRsvd28 data s
  | .wrRsvd29 data => Sys2Proof.Machine.execWrRsvd29 data s
  | .wrRsvd30 data => Sys2Proof.Machine.execWrRsvd30 data s
  | .wrRsvd31 data => Sys2Proof.Machine.execWrRsvd31 data s
  | .wrRsvd32 data => Sys2Proof.Machine.execWrRsvd32 data s
  | .wrRsvd33 data => Sys2Proof.Machine.execWrRsvd33 data s
  | .wrRsvd34 data => Sys2Proof.Machine.execWrRsvd34 data s
  | .wrRsvd35 data => Sys2Proof.Machine.execWrRsvd35 data s
  | .wrRsvd36 data => Sys2Proof.Machine.execWrRsvd36 data s
  | .wrRsvd37 data => Sys2Proof.Machine.execWrRsvd37 data s
  | .wrRsvd38 data => Sys2Proof.Machine.execWrRsvd38 data s
  | .wrRsvd39 data => Sys2Proof.Machine.execWrRsvd39 data s
  | .wrRsvd40 data => Sys2Proof.Machine.execWrRsvd40 data s
  | .wrRsvd41 data => Sys2Proof.Machine.execWrRsvd41 data s
  | .wrRsvd42 data => Sys2Proof.Machine.execWrRsvd42 data s
  | .wrRsvd43 data => Sys2Proof.Machine.execWrRsvd43 data s
  | .wrRsvd44 data => Sys2Proof.Machine.execWrRsvd44 data s
  | .wrRsvd45 data => Sys2Proof.Machine.execWrRsvd45 data s
  | .wrRsvd46 data => Sys2Proof.Machine.execWrRsvd46 data s
  | .wrRsvd47 data => Sys2Proof.Machine.execWrRsvd47 data s
  | .wrRsvd48 data => Sys2Proof.Machine.execWrRsvd48 data s
  | .wrRsvd49 data => Sys2Proof.Machine.execWrRsvd49 data s
  | .wrRsvd50 data => Sys2Proof.Machine.execWrRsvd50 data s
  | .wrRsvd51 data => Sys2Proof.Machine.execWrRsvd51 data s
  | .wrRsvd52 data => Sys2Proof.Machine.execWrRsvd52 data s
  | .wrRsvd53 data => Sys2Proof.Machine.execWrRsvd53 data s
  | .wrRsvd54 data => Sys2Proof.Machine.execWrRsvd54 data s
  | .wrRsvd55 data => Sys2Proof.Machine.execWrRsvd55 data s
  | .wrRsvd56 data => Sys2Proof.Machine.execWrRsvd56 data s
  | .wrRsvd57 data => Sys2Proof.Machine.execWrRsvd57 data s
  | .wrRsvd58 data => Sys2Proof.Machine.execWrRsvd58 data s
  | .wrRsvd59 data => Sys2Proof.Machine.execWrRsvd59 data s
  | .wrRsvd60 data => Sys2Proof.Machine.execWrRsvd60 data s
  | .wrRsvd61 data => Sys2Proof.Machine.execWrRsvd61 data s
  | .wrRsvd62 data => Sys2Proof.Machine.execWrRsvd62 data s
  | .wrRsvd63 data => Sys2Proof.Machine.execWrRsvd63 data s

end Sys2Proof.Machine
end

