-- ==== Sys2Proof/Machine/Engine.lean ====
section
/-!
DEFINITION. The engine's step (spec/44_interface_and_sequencer.md R197): while PHASE ≠ IDLE exactly one unit is enabled, and
the latched opcode `OPL` says whose.
-/

namespace Sys2Proof.Machine

/-- The next unit of a running checksum command (R197). -/
def checksumUnit (v : Variant) (s : State) : Outcome :=
  match v with
  | .bitwise => unitCrc32Bitwise s
  | .halfbyte => unitCrc32Halfbyte s
  | .byte => unitCrc32Byte s
  | .slicing4 => unitCrc32Slicing4 s
  | .slicing2x4 => unitCrc32Slicing2x4 s
  | .slicing4x4 => unitCrc32Slicing4x4 s
  | .slicing8 => unitCrc32Slicing8 s
  | .slicing16 => unitCrc32Slicing16 s
  | .slicing2x16 => unitCrc32Slicing2x16 s
  | .slicing2x8 => unitCrc32Slicing2x8 s
  | .slicing4x8 => unitCrc32Slicing4x8 s
  | .cSlicing4 => unitCrc32cSlicing4 s
  | .cSlicing2x4 => unitCrc32cSlicing2x4 s
  | .cSlicing4x4 => unitCrc32cSlicing4x4 s
  | .cSlicing8 => unitCrc32cSlicing8 s
  | .cSlicing16 => unitCrc32cSlicing16 s
  | .cSlicing32 => unitCrc32cSlicing32 s

/-- The engine's step. With PHASE = IDLE it has none and the state stays (R226). A running checksum whose `OPL` is no
checksum opcode is a state no run reaches; the spec gives it no unit (log entry 20). -/
def engineUnit (s : State) : Outcome :=
  match s.phase with
  | .idle => .next s
  | .init => unitInitTables s
  | .run =>
    match decodeOpcode s.opl with
    | .ok (.checksum v) => checksumUnit v s
    | .ok .initTables => .fault .runningOpcodeUnknown
    | .error _ => .fault .runningOpcodeUnknown

/-- `n` engine steps in a row, with no host transaction between them. -/
def engineUnits : Nat → State → Outcome
  | 0, s => .next s
  | n + 1, s =>
    match engineUnit s with
    | .next t => engineUnits n t
    | .fault f => .fault f
    | .refused r => .refused r

/-- How many bytes the next unit of a running checksum command reads: none for the finish, `B` for an iteration, one for a
byte unit (R197). -/
def nextUnitBytes (v : Variant) (ptr rem : Nat) : Nat :=
  if rem = 0 then 0
  else
    match variantFamily v with
    | .zlib => if iterationSize v ≤ rem then iterationSize v else 1
    | .castagnoli => if ptr % 4 ≠ 0 then 1 else if iterationSize v ≤ rem then iterationSize v else 1

/-- The number of byte-at-once units of the Castagnoli alignment prologue: `min(L, (4 − A mod 4) mod 4)` (R171, R179). -/
def prologueBytes (f : Family) (addr len : Nat) : Nat :=
  match f with
  | .zlib => 0
  | .castagnoli => min len ((4 - addr % 4) % 4)

/-- The units of a checksum command over `len` bytes from `addr`, the finish included: prologue bytes, iterations, tail
bytes and one finish (R147, R179, R201). -/
def unitCount (v : Variant) (addr len : Nat) : Nat :=
  let p := prologueBytes (variantFamily v) addr len
  p + (len - p) / iterationSize v + (len - p) % iterationSize v + 1

end Sys2Proof.Machine
end

