-- ==== Sys2Proof/Machine/World.lean ====
section
/-!
DEFINITION. What each event does: a host transfer runs its instruction; the engine's turn runs its next unit; the reset input
(spec/70_reset_and_hazards.md R240); a host write to its own data space (spec/20_memory.md R50, R61).
-/

namespace Sys2Proof.Machine

/-- The reset event (R240): every piece of the block's state takes its reset value (R241), a running command is abandoned
with no result and no error. The build, the host data space and the schedule are not the block's; the model's records go on
(log entries 9 and 23). -/
def resetEvent (s : State) : State :=
  { State.reset with
    cfg := s.cfg, mem := s.mem, silent := s.silent, faults := s.faults, reads := s.reads, draws := s.draws
    inputs := s.inputs }

/-- Whether an address lies in the buffer `[SRC, SRC+LEN)` (R61). -/
def inBuffer (s : State) (a : Nat) : Bool :=
  decide (s.srcValue.toNat ≤ a) && decide (a < s.srcValue.toNat + s.len.toNat)

/-- The host writes a byte of its data space (R50). A write to the buffer while BUSY = 1 breaks the host's duty, and the model
gives no such move (R61). -/
def hostMemWrite (a : Nat) (b : Byte) (s : State) : Outcome :=
  if s.cfg.spaceSize ≤ a then .fault .addressOutsideSpace
  else if s.busy && inBuffer s a then .refused .bufferWriteWhileBusy
  else .next { s with mem := s.mem.write a b }

/-- One event (R202). -/
def runInput (i : Input) (s : State) : Outcome :=
  match i with
  | .transfer t => exec (instrOf t) s
  | .engine => engineUnit s
  | .reset => .next (resetEvent s)
  | .memWrite a b => hostMemWrite a b s

end Sys2Proof.Machine
end

