-- ==== Sys2Proof/Machine/Step.lean ====
section
/-!
DEFINITION. One step of the machine: the next event of the schedule, and the engine's next unit when the schedule is empty
(spec/44_interface_and_sequencer.md R201, R202).
-/

namespace Sys2Proof.Machine

/-- One step. The head of `inputs` is taken off the schedule and happens; with nothing scheduled the engine moves, so that a
command always goes on to its end (R201; log entry 2). -/
def step (s : State) : Host.Outcome State Fault Refusal :=
  match s.inputs with
  | [] => engineUnit s
  | i :: rest => runInput i { s with inputs := rest }

/-- The table word as the very next event: a host transfer put at the head of the schedule (log entry 4). -/
def State.withFetchWord (s : State) (nbits w : Nat) : State :=
  { s with inputs := .transfer (tableTransfer nbits w) :: s.inputs }

end Sys2Proof.Machine
end

