-- ==== Sys2Proof/Safety.lean ====
section
/-!
DEFINITION. The terms in which claims are made: what a good state is, when a command can run, what it leaves behind, and what
counts as a safe run.
-/

namespace Sys2Proof.Machine

/-- The invariant of the machine. Every clause is a statement of the spec about every state; the rule is named at each. -/
structure Inv (s : State) : Prop where
  /-- The build is one the spec admits (R6). -/
  cfgWf : s.cfg.wf = true
  /-- `BUSY = 1 ⇔ PHASE ≠ IDLE` (R34). -/
  busyIff : s.busy = true ↔ s.phase ≠ .idle
  /-- `DONE` is cleared by acceptance and set only by the finish (R25). -/
  notDoneWhileBusy : s.busy = true → s.done = false
  /-- While a checksum runs, `OPL` holds the opcode of an implemented checksum (R34, R76). -/
  runOpcode : s.phase = .run → ∃ v ∈ s.cfg.implemented, s.opl = encodeOpcode (.checksum v)
  /-- While the tables are built, `OPL` holds the opcode of `INIT_TABLES` (R34). -/
  initOpcode : s.phase = .init → s.opl = encodeOpcode .initTables
  /-- `TBL_VALID` is 0 while the tables are built (R24). -/
  initNotValid : s.phase = .init → s.tblValid = false
  /-- `PTR + REM = SRC + LEN` while a checksum runs (R31). -/
  ptrRem : s.phase = .run → s.ptr.toNat + s.rem.toNat = s.srcValue.toNat + s.len.toNat
  /-- The buffer of a running checksum lies in the host data space, so `PTR` never wraps (R31, R193). -/
  inSpace : s.phase = .run → s.srcValue.toNat + s.len.toNat ≤ s.cfg.spaceSize
  /-- The bits of `SRC` at and above ADDR_WIDTH are zero (R27). -/
  srcBits : s.src.toNat < s.cfg.spaceSize
  /-- `ERR` codes 5 to 15 are never written (R26). -/
  errCode : s.err.toNat ≤ 4
  /-- `ERR` shows the most recent error (R216), so an error shown is the last one recorded (R210). -/
  errRecorded : s.err ≠ 0 → ∃ e, s.faults.getLast? = some e ∧ s.err = errValue e
  /-- `T_Z` is written only by the table build, which writes all of it (R35, R106). -/
  tablesWhole : s.tz = [] ∨ s.tz = builtTables
  /-- While `TBL_VALID = 1` the RAM holds the built tables (R24, R35). -/
  tablesValid : s.tblValid = true → s.tz = builtTables
  /-- The host data space is in canonical form. -/
  memWf : s.mem.wf
  /-- Every listed byte has an address below 2^ADDR_WIDTH (R50). -/
  memInSpace : ∀ c ∈ s.mem, c.1 < s.cfg.spaceSize

/-- The buffer `[SRC, SRC+LEN)` answers every read, with these bytes in address order (R50). -/
def BufferHolds (s : State) (bytes : List Byte) : Prop := memRead s s.srcValue.toNat s.len.toNat = .data bytes

/-- The zlib table RAM is built and marked valid (R24, R35). -/
def TablesReady (s : State) : Prop := s.tblValid = true ∧ s.tz = builtTables

/-- Whether a checksum command reads `T_Z`: family Z but not `CRC32_BITWISE` (R132). -/
def readsTz (v : Variant) : Bool := variantFamily v = .zlib && v ≠ .bitwise

/-- The conditions of an acceptance of a checksum command: idle, implemented, in range (R192, R193). -/
def Acceptable (v : Variant) (s : State) : Prop := s.busy = false ∧ v ∈ s.cfg.implemented ∧ rangeOk s = true

/-- A checksum of variant `v` is running (R34). -/
def Running (v : Variant) (s : State) : Prop := s.phase = .run ∧ s.opl = encodeOpcode (.checksum v)

/-- The state after the acceptance of a checksum command, field by field (R194). -/
def accepted (v : Variant) (s : State) : State :=
  { s with
    err := 0, done := false, busy := true, phase := .run, opl := encodeOpcode (.checksum v)
    acc := entryValue (variantFamily v) s.crc, ptr := s.srcValue.setWidth 33, rem := s.len }

/-- The state a checksum command over `bytes` leaves at its finish: its reference value in `CRC`, the accumulator in its
internal form, the buffer consumed (R199, R200, R203). -/
def finished (v : Variant) (s : State) (bytes : List Byte) : State :=
  { s with
    err := 0, done := true, busy := false, phase := .idle, opl := encodeOpcode (.checksum v)
    crc := refOf (variantFamily v) s.crc bytes
    acc := entryValue (variantFamily v) (refOf (variantFamily v) s.crc bytes)
    ptr := BitVec.ofNat 33 (s.srcValue.toNat + s.len.toNat), rem := 0 }

/-- The units of a command over the registers of `s`, the finish included (R147, R179, R201). -/
def unitsOf (v : Variant) (s : State) : Nat := unitCount v s.srcValue.toNat s.len.toNat

/-- A whole command with no host transaction in between: the request, then its units up to the finish (R200). -/
def runCommand (v : Variant) (s : State) : Outcome :=
  match exec (Command.checksum v).toInstr s with
  | .next t => engineUnits (unitsOf v s) t
  | .fault f => .fault f
  | .refused r => .refused r

/-- The same state with the error field and the two records replaced: all that a host transaction may change while a command
runs (R202, R215). -/
def State.withRecords (s : State) (err : BitVec 4) (faults : List ErrCode) (reads : List Word) : State :=
  { s with err := err, faults := faults, reads := reads }

/-! The host's sequences, as schedules (spec/30_encoding.md R79; spec/70_reset_and_hazards.md R250, R251). -/

/-- A polling phase of any length: engine turns and host reads of `STATUS`, in any order (R79 `poll`, R202). -/
def Polls (polls : List Input) : Prop := ∀ x ∈ polls, x = .engine ∨ x = .transfer (.bus 0x01 0)

/-- `init`: a write of the `INIT_TABLES` word to `CMD`, then polling (R79, R250). -/
def bootSequence (polls : List Input) : List Input := .transfer (.bus 0x40 0x00000001) :: polls

/-- `crc32 M, a, n, c` and `crc32c M, a, n, c`: the three operands, the command word, polling, a last read of `STATUS` and the
read of `CRC` (R79, R251). -/
def commandSequence (v : Variant) (a n c : Word) (polls : List Input) : List Input :=
  [.transfer (.bus 0x42 a), .transfer (.bus 0x43 n), .transfer (.bus 0x44 c),
    .transfer (.bus 0x40 (encodeWord (.checksum v)))] ++ polls ++ [.transfer (.bus 0x01 0), .transfer (.bus 0x04 0)]

/-- A run is safe when no step of it is a fault or a refusal and no error is in the record (R210). -/
def SafeRun (n : Nat) (s : State) : Prop := ∃ t : State, Host.Core.run Sys2Proof.core n s = .next t ∧ t.faults = []

end Sys2Proof.Machine
end

