-- ==== Sys2Proof/Certificates/Slice0/Obligations.lean ====
section
/-!
DEFINITION. The statements for the provers. Each names the rules of spec/ it formalises; OBLIGATIONS.json lists them.
A statement that rests on a choice of the model says so and names the log entry.
-/

open Sys2Proof Sys2Proof.Machine

/-! ## Reset -/

/-- R241: what reset leaves in the registers and flags the spec gives a value for. -/
def Obligations.ResetGivesTheSpecifiedValues : Prop :=
  State.reset.busy = false ∧ State.reset.tblValid = false ∧ State.reset.done = false ∧ State.reset.err = 0 ∧
  State.reset.src = 0 ∧ State.reset.len = 0 ∧ State.reset.crc = 0 ∧ State.reset.phase = .idle

/-- R240: a reset at any point, also while a command runs, sets the block to its reset values, writes no result, raises no
error and leaves the host data space and the build as they were. That the records go on is the model's choice (log entry 9),
and so is that the events after the reset stay in the schedule (`t.inputs = rest`, log entry 23). -/
def Obligations.ResetEventAbandonsTheCommand : Prop :=
  ∀ (s : State) (rest : List Input), ∃ t : State,
    step { s with inputs := .reset :: rest } = .next t ∧
    t.busy = false ∧ t.tblValid = false ∧ t.done = false ∧ t.err = 0 ∧ t.src = 0 ∧ t.len = 0 ∧ t.crc = 0 ∧
    t.phase = .idle ∧ t.mem = s.mem ∧ t.cfg = s.cfg ∧ t.faults = s.faults ∧ t.reads = s.reads ∧ t.inputs = rest

/-- R243: after a reset of any state, reads of `STATUS`, `SRC`, `LEN` and `CRC` return zero. -/
def Obligations.ReadsAfterResetReturnZero : Prop :=
  ∀ s : State, ∃ t : State, runInput .reset s = .next t ∧
    ∀ i ∈ [Instr.rdStatus, .rdSrc, .rdLen, .rdCrc], exec i t = .next { t with reads := t.reads ++ [0] }

/-- The invariant holds right after reset (R241, R34). That the host data space and `T_Z` list nothing there is the model's
choice (log entries 5 and 7). -/
def Obligations.InvariantHoldsAtReset : Prop := Inv State.reset

/-- Every step of every event keeps the invariant, from every state that meets it, not only from those a run reaches. -/
def Obligations.EveryStepKeepsTheInvariant : Prop :=
  ∀ s t : State, Inv s → step s = .next t → Inv t

/-! ## Encoding -/

/-- Decode and encode agree both ways (R72, R80, R81): the encoding of an instruction decodes to it, and a transfer that
decodes to an instruction is its encoding, but for the data lines of a read, which carry nothing. -/
def Obligations.DecodeAndEncodeAgree : Prop :=
  (∀ i : Instr, decode (encode i) = .ok i) ∧
  (∀ (w : Word) (i : Instr), decode (.command w) = .ok i → encode i = .command w) ∧
  (∀ (d : Descriptor) (v : Word),
    decode (.bus d v) = .ok (decodeBus d v) ∧
    encode (decodeBus d v) = .bus d (if d.getLsbD 6 then v else 0))

/-- R81, R76: a word decodes to a command exactly when it is that command's word and the build implements it; every other
word is Illegal. -/
def Obligations.LegalWordsAreTheOpcodeMap : Prop :=
  ∀ (implemented : List Variant) (w : Word) (c : Command),
    decodeCommand implemented w = .ok c ↔
      w = encodeWord c ∧ (c = .initTables ∨ ∃ v ∈ implemented, c = .checksum v)

/-- Words written out from the tables of R72 and R80 decode to the instructions they stand for, and reserved ones do not. That
an 8-bit table word holds the descriptor in its first byte, and a write's data word is then zero, is the model's choice (log
entry 4). -/
def Obligations.WrittenOutWordsDecode : Prop :=
  decodeTableWord 32 0b00000000000000000000000000000001 = some .initTables ∧
  decodeTableWord 32 0b00000000000000000000000000001010 = some .crc32Slicing2x16 ∧
  decodeTableWord 32 0b00000000000000000000000000010110 = some .crc32cSlicing32 ∧
  decodeTableWord 8 0b0000100 = some .rdCrc ∧
  decodeTableWord 8 0b1000010 = some (.wrSrc 0) ∧
  decodeTableWord 8 0b0101000 = some .rdRsvd40 ∧
  decodeTableWord 8 0b1111111 = some (.wrRsvd63 0) ∧
  decodeTableWord 32 0b00000000000000000000000000010000 = none ∧
  decodeTableWord 32 0b10000000000000000000000000001000 = none

/-! ## The step -/

/-- A scheduled transfer that decodes to `i` is run by `exec i` on the rest of the schedule (R70; the schedule is log entry 1).
Two clauses are the model's: that an Illegal command word runs the host write of that word (log entry 3, deduced from R70 and
R192), and that a table word placed by `withFetchWord` is what the very next step runs (log entry 4). -/
def Obligations.StepRunsTheDecodedInstruction : Prop :=
  (∀ (s : State) (t : Transfer) (rest : List Input) (i : Instr),
    s.inputs = .transfer t :: rest → decode t = .ok i → step s = exec i { s with inputs := rest }) ∧
  (∀ (s : State) (w : Word) (rest : List Input) (e : DecodeError),
    s.inputs = .transfer (.command w) :: rest → decode (.command w) = .error e →
      step s = exec (.wrCmd w) { s with inputs := rest }) ∧
  (∀ (s : State) (nbits w : Nat) (i : Instr),
    decodeTableWord nbits w = some i → step (s.withFetchWord nbits w) = exec i s)

/-- The engine's turn runs the engine's unit; so does a step with nothing scheduled (log entry 2); and with PHASE = IDLE the
engine has no step (R197, R226). -/
def Obligations.StepRunsTheEngineUnit : Prop :=
  (∀ (s : State) (rest : List Input), s.inputs = .engine :: rest → step s = engineUnit { s with inputs := rest }) ∧
  (∀ s : State, s.inputs = [] → step s = engineUnit s) ∧
  (∀ s : State, s.phase = .idle → engineUnit s = .next s)

/-! ## Host transactions -/

/-- R190: every read completes in every state, busy or not; it returns the register's word and changes nothing else. A word
returned is recorded in `reads` (log entry 11). -/
def Obligations.HostReadsReturnTheRegister : Prop :=
  ∀ s : State,
    exec .rdCmd s = .next { s with reads := s.reads ++ [0] } ∧
    (∃ w : Word, exec .rdStatus s = .next { s with reads := s.reads ++ [w] } ∧
      w.toNat = s.busy.toNat + 2 * s.tblValid.toNat + 4 * s.done.toNat + 256 * s.err.toNat) ∧
    (∃ w : Word, exec .rdSrc s = .next { s with reads := s.reads ++ [w] } ∧
      w.toNat = s.src.toNat % 2 ^ s.cfg.addrWidth) ∧
    exec .rdLen s = .next { s with reads := s.reads ++ [s.len] } ∧
    exec .rdCrc s = .next { s with reads := s.reads ++ [s.crc] } ∧
    ∀ idx : BitVec 6, 5 ≤ idx.toNat → exec (readInstr idx) s = .next { s with reads := s.reads ++ [0] }

/-- R191, idle: `wr SRC`, `wr LEN` and `wr CRC` store their word, and nothing else changes. The bits of `SRC` at and above
ADDR_WIDTH ignore the write (R27). -/
def Obligations.IdleRegisterWritesStore : Prop :=
  ∀ (s : State) (v : Word), s.busy = false →
    (∃ w : Word, exec (.wrSrc v) s = .next { s with src := w } ∧ w.toNat = v.toNat % 2 ^ s.cfg.addrWidth) ∧
    exec (.wrLen v) s = .next { s with len := v } ∧
    exec (.wrCrc v) s = .next { s with crc := v }

/-- R215, R191, R192: a write of `CMD`, `SRC`, `LEN` or `CRC`, or a command word, while BUSY = 1 is dropped: `ERR <- 3`, the
error is recorded, nothing else changes. -/
def Obligations.BusyWritesAreDropped : Prop :=
  ∀ (s : State) (v : Word) (c : Command), s.busy = true →
    ∀ i ∈ [Instr.wrCmd v, .wrSrc v, .wrLen v, .wrCrc v, c.toInstr],
      exec i s = .next { s with err := 3, faults := s.faults ++ [.busy] }

/-- R196: host writes to `STATUS` (descriptor 0x41) and to the reserved indices (0x45 to 0x7F) are ignored at all times. -/
def Obligations.IgnoredWritesChangeNothing : Prop :=
  ∀ (s : State) (d : Descriptor) (v : Word), d = 0x41 ∨ 0x45 ≤ d.toNat → exec (decodeBus d v) s = .next s

/-- R20, R51: the register of index `idx` stands at byte offset 4 × `idx` of the window at REG_BASE, and there only. -/
def Obligations.WindowAddressesReachTheirRegister : Prop :=
  ∀ (cfg : Config) (write : Bool) (addr : Nat) (d : Descriptor),
    windowDescriptor cfg write addr = some d ↔
      ∃ idx : BitVec 6, addr = cfg.regBase + 4 * idx.toNat ∧ d.toNat = 64 * write.toNat + idx.toNat

/-- R194: acceptance. An idle machine accepts `INIT_TABLES` always, and an implemented checksum in range; the command's own
row and a `wr CMD` of its word do the same, in one transition that changes exactly what R194 lists. -/
def Obligations.AcceptanceLatchesTheCommand : Prop :=
  (∀ s : State, s.busy = false →
    ∀ i ∈ [Instr.initTables, .wrCmd (encodeWord .initTables)],
      exec i s = .next { s with
        err := 0, done := false, busy := true, opl := 0x01, tblValid := false, phase := .init }) ∧
  (∀ (v : Variant) (s : State), s.busy = false → v ∈ s.cfg.implemented →
    s.srcValue.toNat + s.len.toNat ≤ 2 ^ s.cfg.addrWidth →
    ∀ i ∈ [(Command.checksum v).toInstr, .wrCmd (encodeWord (.checksum v))],
      exec i s = .next { s with
        err := 0, done := false, busy := true, opl := encodeOpcode (.checksum v), phase := .run
        acc := if variantFamily v = .zlib then ~~~s.crc else s.crc
        ptr := BitVec.ofNat 33 s.srcValue.toNat, rem := s.len })

/-- R212: an Illegal word written while idle is rejected: `ERR <- 1`, `DONE <- 0`, nothing else. Illegal is a set bit of
`RSVD`, a reserved opcode, or a checksum opcode the build does not implement; a command row the build lacks is rejected too. -/
def Obligations.IllegalWordsAreRejected : Prop :=
  ∀ (s : State) (w : Word), s.busy = false →
    (w >>> 5 ≠ 0 ∨ (∀ c : Command, w.setWidth 5 ≠ encodeOpcode c) ∨
      (∃ v : Variant, w.setWidth 5 = encodeOpcode (.checksum v) ∧ v ∉ s.cfg.implemented)) →
    exec (.wrCmd w) s = .next { s with err := 1, done := false, faults := s.faults ++ [.illegal] } ∧
    ∀ v : Variant, v ∉ s.cfg.implemented →
      exec (Command.checksum v).toInstr s = .next { s with err := 1, done := false, faults := s.faults ++ [.illegal] }

/-- R213: a legal checksum whose buffer runs past the address space is rejected while idle: `ERR <- 2`, `DONE <- 0`, nothing
else; `INIT_TABLES` is never range-checked; and the rule's example is out of range. -/
def Obligations.OutOfRangeIsRejected : Prop :=
  (∀ (v : Variant) (s : State), s.busy = false → v ∈ s.cfg.implemented →
    2 ^ s.cfg.addrWidth < s.srcValue.toNat + s.len.toNat →
    ∀ i ∈ [(Command.checksum v).toInstr, .wrCmd (encodeWord (.checksum v))],
      exec i s = .next { s with err := 2, done := false, faults := s.faults ++ [.range] }) ∧
  (∀ s : State, s.busy = false → ∃ t : State, exec .initTables s = .next t ∧ t.err = 0 ∧ t.phase = .init) ∧
  (∀ s : State, s.cfg = Config.default → s.src = 0xFFFFFFF0 → s.len = 0x20 →
    2 ^ s.cfg.addrWidth < s.srcValue.toNat + s.len.toNat)

/-- R216, R192: one `CMD` write is checked for `ERR_BUSY`, then `ERR_ILLEGAL`, then `ERR_RANGE`, and reports only the first
that applies: a busy machine reports BUSY for any word, an idle one ILLEGAL for an Illegal word even when out of range. -/
def Obligations.ChecksComeInOrder : Prop :=
  ∀ (s : State) (w : Word), ∃ t : State, exec (.wrCmd w) s = .next t ∧
    t.faults = s.faults ++
      (if s.busy = true then [.busy]
       else
         match decodeCommand s.cfg.implemented w with
         | .error _ => [.illegal]
         | .ok c => if c ≠ .initTables ∧ 2 ^ s.cfg.addrWidth < s.srcValue.toNat + s.len.toNat then [.range] else [])

/-! ## Tables -/

/-- R106: from an idle machine `INIT_TABLES` is accepted, and its one unit writes the whole of `T_Z`, sets TBL_VALID and
DONE, clears BUSY, and leaves `CRC`, `SRC`, `LEN` and the host data space alone. -/
def Obligations.InitTablesBuildsTheTables : Prop :=
  ∀ s : State, s.busy = false → ∃ t : State, exec .initTables s = .next t ∧
    engineUnit t = .next { s with
      err := 0, done := true, busy := false, opl := 0x01, tblValid := true, phase := .idle, tz := builtTables }

/-- R107: the contents of `T_Z` after the table build depend on nothing the machine holds. -/
def Obligations.RebuildGivesTheSameTables : Prop :=
  ∀ s t s' t' : State, s.phase = .init → s'.phase = .init →
    engineUnit s = .next t → engineUnit s' = .next t' → t.tz = t'.tz

/-- R101, R102: the contents of `T_Z` as the table build writes it, entry by entry, by the rules' recurrence. -/
def Obligations.TablesFollowTheRecurrence : Prop :=
  (∀ i : Byte, tzRead builtTables 0 i = iterate (bitstep 0xEDB88320) 8 (i.setWidth 32)) ∧
  (∀ (j : Nat) (i : Byte), 1 ≤ j → j ≤ 15 →
    tzRead builtTables j i =
      (tzRead builtTables (j - 1) i >>> 8) ^^^ tzRead builtTables 0 (((tzRead builtTables (j - 1) i) &&& 0xFF).setWidth 8))

/-- The contents of the Castagnoli ROM, entry by entry, by the recurrence of R108. The value 0x82F63B78 of `P_C` is presumed,
from general knowledge by the spec itself (log entry 16). -/
def Obligations.RomFollowsTheRecurrence : Prop :=
  (∀ i : Byte, tcRead 0 i = iterate (bitstep 0x82F63B78) 8 (i.setWidth 32)) ∧
  (∀ (j : Nat) (i : Byte), 1 ≤ j → j ≤ 11 →
    tcRead j i = (tcRead (j - 1) i >>> 8) ^^^ tcRead 0 (((tcRead (j - 1) i) &&& 0xFF).setWidth 8))

/-- R105: in either table set, level j maps a byte to the byte-serial fold of that byte followed by j zero bytes, from a zero
accumulator; entry 0 is 0; and every level is linear over XOR. -/
def Obligations.LevelsAreLinearRemainders : Prop :=
  ∀ (p : Word) (j : Nat) (i k : Byte),
    tableEntry p j i = (i :: List.replicate j 0).foldl (byteAtOnce (tableEntry p)) 0 ∧
    tableEntry p j 0 = 0 ∧
    tableEntry p j (i ^^^ k) = tableEntry p j i ^^^ tableEntry p j k

/-- R104: the half-byte table `H[j] = T_Z[0][j << 4]` is the four-step bit iteration on j, with the 16 values listed. -/
def Obligations.HalfByteTableIsLevelZero : Prop :=
  (∀ j : Fin 16, tzRead builtTables 0 (BitVec.ofNat 8 (j.val * 16)) =
    iterate (bitstep polyZlib) 4 (BitVec.ofNat 32 j.val)) ∧
  (List.range 16).map (fun j => tzRead builtTables 0 (BitVec.ofNat 8 (j * 16))) =
    [0x00000000, 0x1DB71064, 0x3B6E20C8, 0x26D930AC, 0x76DC4190, 0x6B6B51F4, 0x4DB26158, 0x5005713C,
     0xEDB88320, 0xF00F9344, 0xD6D6A3E8, 0xCB61B38C, 0x9B64C2B0, 0x86D3D2D4, 0xA00AE278, 0xBDBDF21C]

/-! ## Datapaths -/

/-- R120: the branch-free bit iteration equals the conditional one, for every polynomial and accumulator. -/
def Obligations.BranchFreeStepIsTheBitStep : Prop := ∀ p c : Word, bitstepMask p c = bitstep p c

/-- R124: the bitwise, half-byte and byte-at-once units of the zlib family are equal once the RAM is built, and the bitwise
and byte-at-once units of the Castagnoli family are equal. -/
def Obligations.ByteUnitsAgree : Prop :=
  ∀ (acc : Word) (d : Byte),
    bitwiseByte polyZlib acc d = halfByte (tzRead builtTables) acc d ∧
    halfByte (tzRead builtTables) acc d = byteAtOnce (tzRead builtTables) acc d ∧
    bitwiseByte polyCastagnoli acc d = byteAtOnce tcRead acc d

/-- R143: the base block step over lane words equals the byte-serial fold of the block's bytes: S in 4, 8, 16 over the built
zlib RAM, S in 4, 8 over the Castagnoli ROM, whatever the host's byte order. -/
def Obligations.BlockStepIsTheByteFold : Prop :=
  ∀ (bigEndian : Bool) (acc : Word) (c : List Byte),
    (c.length ∈ [4, 8, 16] →
      blockStep (tzRead builtTables) c.length acc (laneWords bigEndian c) =
        c.foldl (byteAtOnce (tzRead builtTables)) acc) ∧
    (c.length ∈ [4, 8] →
      blockStep tcRead c.length acc (laneWords bigEndian c) = c.foldl (byteAtOnce tcRead) acc)

/-- R176, R173: every decomposition of the two wide Castagnoli iterations into base blocks the 12-level ROM can serve has the
value the model's unit computes, the byte-serial fold. -/
def Obligations.WideDecompositionsAgree : Prop :=
  ∀ (bigEndian : Bool) (acc : Word) (c : List Byte) (depth unroll : Nat),
    depth ∈ [4, 8] → unroll * depth = c.length → c.length ∈ [16, 32] →
      iteration bigEndian tcRead depth unroll acc c = c.foldl (byteAtOnce tcRead) acc

/-- R52, R53: a lane word holds byte a+k in lane k, in either byte order of the host data bus. -/
def Obligations.LaneWordsIgnoreTheByteOrder : Prop :=
  ∀ (bigEndian : Bool) (b0 b1 b2 b3 : Byte),
    laneWord bigEndian b0 b1 b2 b3 = word b0 b1 b2 b3 ∧
    (List.range 4).map (lane (laneWord bigEndian b0 b1 b2 b3)) = [b0, b1, b2, b3]

/-- R128, R130, R131: zero length gives the carry-in back, and a checksum over two chunks is the checksum over their
concatenation, for both families. -/
def Obligations.ReferenceFunctionsChain : Prop :=
  ∀ (f : Family) (c : Word) (s1 s2 : List Byte),
    refOf f c [] = c ∧ refOf f c (s1 ++ s2) = refOf f (refOf f c s1) s2

/-! ## Units -/

/-- R197, R125 to R127, R144, R145, R171 to R176: every unit that reads bytes reads exactly the next `nextUnitBytes`, makes
`ACC` the byte-serial fold of them, moves `PTR` on and `REM` down by their number, and changes nothing else, for all 17
commands. The 10 commands that read `T_Z` need the tables built. -/
def Obligations.UnitsFoldTheirBytes : Prop :=
  ∀ (v : Variant) (s : State) (c : List Byte),
    Running v s → s.rem ≠ 0 → (readsTz v = true → TablesReady s) →
    memRead s s.ptr.toNat (nextUnitBytes v s.ptr.toNat s.rem.toNat) = .data c →
    engineUnit s = .next { s with
      acc := c.foldl (bitwiseByte (polyOf (variantFamily v))) s.acc
      ptr := s.ptr + BitVec.ofNat 33 c.length
      rem := s.rem - BitVec.ofNat 32 c.length }

/-- R199: with REM = 0 the running command finishes: `CRC <- ~ACC` for family Z and `ACC` for family C, BUSY 0, DONE 1, PHASE
IDLE; `ERR` and all else unchanged. -/
def Obligations.FinishWritesTheResult : Prop :=
  ∀ (v : Variant) (s : State), Running v s → s.rem = 0 →
    engineUnit s = .next { s with
      crc := if variantFamily v = .zlib then ~~~s.acc else s.acc
      busy := false, done := true, phase := .idle }

/-- R214: a unit one of whose byte reads answers `BusError`, the others answering too, aborts the command: `ERR <- 4`, BUSY 0,
DONE 0, PHASE IDLE, the error recorded, and nothing else changes. In whatever order the unit reads (R57), the outcome is this. -/
def Obligations.AnyBusErrorAbortsTheCommand : Prop :=
  ∀ (v : Variant) (s : State) (k : Nat), Running v s →
    k < nextUnitBytes v s.ptr.toNat s.rem.toNat → memByte s (s.ptr.toNat + k) = .busError →
    (∀ j < nextUnitBytes v s.ptr.toNat s.rem.toNat, s.ptr.toNat + j ∉ s.silent) →
    engineUnit s = .next { s with
      err := 4, faults := s.faults ++ [.bus], busy := false, done := false, phase := .idle }

/-- The abort of R214 for every unit whose read, taken as a whole, answers `BusError`. Where the unit holds a `BusError` address
before one that never answers, that it aborts rests on the model's read order (log entry 19). -/
def Obligations.BusErrorAbortsTheCommand : Prop :=
  ∀ (v : Variant) (s : State), Running v s →
    memRead s s.ptr.toNat (nextUnitBytes v s.ptr.toNat s.rem.toNat) = .busError →
    engineUnit s = .next { s with
      err := 4, faults := s.faults ++ [.bus], busy := false, done := false, phase := .idle }

/-- R201, spec/93_implementation_defined.md I5: while the host memory does not answer a byte read, the engine is stuck:
nothing changes and BUSY stays 1. That silence is a list of addresses is the model's choice (log entry 5); where the unit holds
a silent address before one that answers `BusError`, that it stalls rests on the model's read order (log entry 19). -/
def Obligations.UnansweredReadStallsTheEngine : Prop :=
  ∀ (v : Variant) (s : State), Running v s →
    memRead s s.ptr.toNat (nextUnitBytes v s.ptr.toNat s.rem.toNat) = .noAnswer → engineUnit s = .next s

/-! ## Whole commands -/

/-- R125 to R127, R146, R150 to R157, R200: each of the 11 zlib commands, requested by its row while idle and in range, is
accepted, and after exactly its unit count the machine holds `ref_Z` of the buffer in `CRC` and the flags of a finish, and
nothing outside the engine's registers has changed. Only the ten that read `T_Z` need the tables (R132). -/
def Obligations.ZlibCommandsReturnTheReference : Prop :=
  ∀ (v : Variant) (s : State) (bytes : List Byte),
    variantFamily v = .zlib → Acceptable v s → BufferHolds s bytes → (readsTz v = true → TablesReady s) →
    ∃ t : State, exec (Command.checksum v).toInstr s = .next t ∧
      engineUnits (unitsOf v s) t = .next { finished v s bytes with crc := refZlib s.crc bytes }

/-- R177, R180 to R185, R200: each of the 6 Castagnoli commands, requested by its row while idle and in range, is accepted,
and after exactly its unit count the machine holds the raw `ref_C` of the buffer in `CRC`, whatever TBL_VALID is. -/
def Obligations.CastagnoliCommandsReturnTheReference : Prop :=
  ∀ (v : Variant) (s : State) (bytes : List Byte),
    variantFamily v = .castagnoli → Acceptable v s → BufferHolds s bytes →
    ∃ t : State, exec (Command.checksum v).toInstr s = .next t ∧
      engineUnits (unitsOf v s) t = .next { finished v s bytes with crc := refCastagnoli s.crc bytes }

/-- R147, R179, R130, R198: with LEN = 0 every checksum command is accepted, whatever `SRC` is (R193), and finishes in one unit, reads no memory and no
table, and leaves `CRC` as it was, whether or not the tables are built. -/
def Obligations.ZeroLengthLeavesTheChecksum : Prop :=
  ∀ (v : Variant) (s : State), s.busy = false → v ∈ s.cfg.implemented → s.len = 0 →
    ∃ t u : State, exec (Command.checksum v).toInstr s = .next t ∧ engineUnits 1 t = .next u ∧
      u.crc = s.crc ∧ u.busy = false ∧ u.done = true ∧ u.err = 0 ∧ u.faults = s.faults ∧ u.draws = s.draws

/-- R198: a command that reads `T_Z` while TBL_VALID = 0, over a buffer that is not empty, is not detected: it finishes with
DONE = 1 and ERR = 0, and its `CRC` is a draw, the complement of an unconstrained word. The number of the draw is the model's
(log entry 8); the statement holds whatever the draws are. -/
def Obligations.UnbuiltTablesGiveADraw : Prop :=
  ∀ (v : Variant) (s : State) (bytes : List Byte),
    readsTz v = true → Acceptable v s → BufferHolds s bytes → s.tblValid = false → s.len ≠ 0 →
    ∃ t : State, exec (Command.checksum v).toInstr s = .next t ∧
      engineUnits (unitsOf v s) t = .next { finished v s bytes with
        acc := Config.freeWord (s.draws + unitsOf v s - 2)
        crc := ~~~Config.freeWord (s.draws + unitsOf v s - 2)
        draws := s.draws + unitsOf v s - 1 }

/-- R29, R253, R200: before its finish a running command shows the host only BUSY = 1: after any smaller number of units
`CRC`, `SRC`, `LEN`, `ERR` and the host data space read as at acceptance, and DONE is 0. -/
def Obligations.RunningCommandShowsOnlyBusy : Prop :=
  ∀ (v : Variant) (s : State) (bytes : List Byte) (k : Nat),
    Acceptable v s → BufferHolds s bytes → k < unitsOf v s →
    ∃ u : State, engineUnits k (accepted v s) = .next u ∧
      u.busy = true ∧ u.done = false ∧ u.err = 0 ∧ u.crc = s.crc ∧ u.src = s.src ∧ u.len = s.len ∧
      u.tblValid = s.tblValid ∧ u.tz = s.tz ∧ u.mem = s.mem ∧ u.faults = s.faults

/-- R201: from every state that meets the invariant, if the host memory answers every read, by a byte or by `BusError`, the
running command ends after at most REM + 1 units; `INIT_TABLES` takes one. -/
def Obligations.EveryCommandEnds : Prop :=
  ∀ s : State, Inv s → s.busy = true → s.silent = [] →
    ∃ (n : Nat) (t : State), n ≤ (if s.phase = .init then 1 else s.rem.toNat + 1) ∧
      engineUnits n s = .next t ∧ t.busy = false ∧ t.phase = .idle

/-- R41, R131, R257: two commands of one family, of any variants, over two chunks, with only `SRC` and `LEN` rewritten in
between, leave the checksum of the concatenation in `CRC`. -/
def Obligations.ChunksChainThroughCrc : Prop :=
  ∀ (v1 v2 : Variant) (s : State) (a n : Word) (b1 b2 : List Byte),
    variantFamily v1 = variantFamily v2 →
    (readsTz v1 = true ∨ readsTz v2 = true → TablesReady s) →
    Acceptable v1 s → BufferHolds s b1 →
    Acceptable v2 { s with src := a, len := n } → BufferHolds { s with src := a, len := n } b2 →
    ∃ t u w x : State, runCommand v1 s = .next t ∧ exec (.wrSrc a) t = .next u ∧ exec (.wrLen n) u = .next w ∧
      runCommand v2 w = .next x ∧ x.crc = refOf (variantFamily v1) s.crc (b1 ++ b2) ∧ x.err = 0 ∧ x.done = true

/-- R202, R210, R251: a machine with an empty fault record whose schedule is one acceptable command runs safely to the
finish: no step faults or is refused, no error is recorded, and at the end BUSY = 0, DONE = 1, ERR = 0 and PHASE = IDLE. Unless
the command read tables that were not built (R198), the end is the finish with the reference value in `CRC`, whole. That the
steps after the one transfer are the engine's is the model's choice (log entry 2). -/
def Obligations.ScheduledCommandRunsSafely : Prop :=
  ∀ (v : Variant) (s : State) (bytes : List Byte),
    Acceptable v s → BufferHolds s bytes → s.faults = [] →
    s.inputs = [.transfer (encode (Command.checksum v).toInstr)] →
    SafeRun (unitsOf v s + 1) s ∧
    ∃ t : State, Host.Core.run Sys2Proof.core (unitsOf v s + 1) s = .next t ∧
      t.busy = false ∧ t.done = true ∧ t.err = 0 ∧ t.phase = .idle ∧ t.faults = [] ∧
      ((readsTz v = true → TablesReady s) →
        t.crc = refOf (variantFamily v) s.crc bytes ∧ t = { finished v s bytes with inputs := [] })

/-- R250, R79 `init`: the boot sequence from an idle machine, with any polling that gives the engine a turn, leaves the tables
built and valid, DONE = 1, ERR = 0 and the operand registers as they were. The order of events is a schedule (log entry 1). -/
def Obligations.BootSequenceMakesTheTablesReady : Prop :=
  ∀ (s : State) (polls rest : List Input), s.busy = false → Polls polls → Input.engine ∈ polls →
    s.inputs = bootSequence polls ++ rest →
    ∃ t : State, Host.Core.run Sys2Proof.core (bootSequence polls).length s = .next t ∧ t.inputs = rest ∧ TablesReady t ∧
      t.busy = false ∧ t.done = true ∧ t.err = 0 ∧ t.src = s.src ∧ t.len = s.len ∧ t.crc = s.crc ∧ t.faults = s.faults

/-- R251, R79 `crc32` and `crc32c`: the host's command sequence from an idle machine, under every polling that gives the
engine its units, in any order with the reads of `STATUS`, ends with the host reading a `STATUS` with DONE = 1 and no error,
and the reference value of the buffer from `CRC`. The order of events is a schedule, and a read's word is recorded in `reads`,
by the model's choice (log entries 1 and 11). -/
def Obligations.CommandSequenceReturnsTheReference : Prop :=
  ∀ (v : Variant) (s : State) (a n c : Word) (bytes : List Byte) (polls rest : List Input),
    Acceptable v { s with src := a, len := n } → BufferHolds { s with src := a, len := n } bytes →
    (readsTz v = true → TablesReady s) →
    Polls polls → unitsOf v { s with src := a, len := n } ≤ polls.count .engine →
    s.inputs = commandSequence v a n c polls ++ rest →
    ∃ (t : State) (polled : List Word),
      Host.Core.run Sys2Proof.core (commandSequence v a n c polls).length s = .next t ∧
      t.reads = s.reads ++ polled ++ [if s.tblValid then 0x00000006 else 0x00000004, refOf (variantFamily v) c bytes] ∧
      polled.length = polls.length - polls.count .engine ∧
      t.inputs = rest ∧ t.faults = s.faults ∧ t.mem = s.mem

/-! ## Whole-machine rules -/

/-- Every instruction completes in every state: none ends in a fault or a refusal (R206: no transaction can trap). -/
def Obligations.EveryInstructionCompletes : Prop := ∀ (i : Instr) (s : State), ∃ t : State, exec i s = .next t

/-- R202, R215: while a command runs, no host transaction changes anything but `ERR` and the records: `ERR` stays, or becomes
`ERR_BUSY` with that error recorded. -/
def Obligations.BusyTransactionsLeaveTheCommandAlone : Prop :=
  ∀ (i : Instr) (s : State), s.busy = true →
    ∃ (err : BitVec 4) (faults : List ErrCode) (reads : List Word),
      exec i s = .next (s.withRecords err faults reads) ∧
      ((err = s.err ∧ faults = s.faults) ∨ (err = 3 ∧ faults = s.faults ++ [.busy]))

/-- The frame of the 146 instructions (R190 to R196, R205): none writes the host data space, `T_Z`, the build, the draws or
the schedule; every byte reads as before; `SRC`, `LEN` and `CRC` change only by their own write; `ACC`, `PTR`, `REM`, `OPL`
and PHASE only by an acceptance, which is a command row or a `wr CMD` of its word while idle; TBL_VALID only by the acceptance of
`INIT_TABLES`. -/
def Obligations.InstructionsKeepTheirFrame : Prop :=
  ∀ (i : Instr) (s t : State), exec i s = .next t →
    t.mem = s.mem ∧ (∀ a : Nat, memByte t a = memByte s a) ∧ t.silent = s.silent ∧ t.tz = s.tz ∧ t.cfg = s.cfg ∧
    t.draws = s.draws ∧ t.inputs = s.inputs ∧
    ((∀ v : Word, i ≠ .wrSrc v) → t.src = s.src) ∧
    ((∀ v : Word, i ≠ .wrLen v) → t.len = s.len) ∧
    ((∀ v : Word, i ≠ .wrCrc v) → t.crc = s.crc) ∧
    (t.busy = s.busy →
      t.acc = s.acc ∧ t.ptr = s.ptr ∧ t.rem = s.rem ∧ t.opl = s.opl ∧ t.phase = s.phase ∧ t.tblValid = s.tblValid) ∧
    (t.busy ≠ s.busy → s.busy = false ∧ t.err = 0 ∧ t.done = false ∧
      ∃ c : Command, (i = c.toInstr ∨ i = .wrCmd (encodeWord c)) ∧ t.opl = encodeOpcode c) ∧
    (t.tblValid ≠ s.tblValid → s.busy = false ∧ t.busy = true ∧ t.tblValid = false ∧ t.phase = .init ∧ t.opl = 0x01 ∧
      (i = .initTables ∨ i = .wrCmd (encodeWord .initTables)))

/-- The frame of the engine (R27 to R29, R50, R56, R199, R205): no unit writes `SRC`, `LEN`, the host data space, the build,
the reads or the schedule; `CRC` is written only by the finish of a checksum; `T_Z` and TBL_VALID only by the table build;
`OPL` is constant. -/
def Obligations.EngineKeepsItsFrame : Prop :=
  ∀ s t : State, engineUnit s = .next t →
    t.src = s.src ∧ t.len = s.len ∧ t.mem = s.mem ∧ t.silent = s.silent ∧ t.cfg = s.cfg ∧ t.opl = s.opl ∧
    t.reads = s.reads ∧ t.inputs = s.inputs ∧
    (t.crc ≠ s.crc → s.phase = .run ∧ s.rem = 0 ∧ t.done = true) ∧
    (t.tz ≠ s.tz ∨ t.tblValid ≠ s.tblValid → s.phase = .init ∧ t.tz = builtTables ∧ t.tblValid = true)

/-- R50, R61: the host data space changes only by a host write to it, and then at that one address. -/
def Obligations.OnlyTheHostWritesItsMemory : Prop :=
  ∀ (s t : State) (a : Nat), step s = .next t → t.mem.read a ≠ s.mem.read a →
    ∃ (b : Byte) (rest : List Input), s.inputs = .memWrite a b :: rest ∧ t.mem.read a = some b

/-- R61: while BUSY = 1 the model gives the host no move that writes the buffer; a write elsewhere in the space, or while
idle, lands. That the missing move is a refusal by name is the model's form (log entry 17). -/
def Obligations.BufferIsStableWhileBusy : Prop :=
  ∀ (s : State) (a : Nat) (b : Byte) (rest : List Input),
    s.inputs = .memWrite a b :: rest → a < s.cfg.spaceSize →
    if s.busy = true ∧ s.srcValue.toNat ≤ a ∧ a < s.srcValue.toNat + s.len.toNat then
      step s = .refused .bufferWriteWhileBusy
    else ∃ t : State, step s = .next t ∧ t.mem.read a = some b ∧ ∀ a' : Nat, a' ≠ a → t.mem.read a' = s.mem.read a'

/-- R210: no step removes an error from the fault record, a reset included (log entry 9). -/
def Obligations.FaultRecordOnlyGrows : Prop := ∀ s t : State, step s = .next t → s.faults <+: t.faults

/-- R23: BUSY rises only with the acceptance of a command request, and falls only by the finish, a bus-error abort or a
reset. -/
def Obligations.BusyHasItsWriters : Prop :=
  ∀ s t : State, step s = .next t →
    (s.busy = false → t.busy = true →
      ∃ (x : Transfer) (c : Command) (rest : List Input), s.inputs = .transfer x :: rest ∧
        (instrOf x = c.toInstr ∨ instrOf x = .wrCmd (encodeWord c)) ∧ t.opl = encodeOpcode c ∧ t.err = 0) ∧
    (s.busy = true → t.busy = false →
      (s.phase ≠ .idle ∧ t.done = true ∧ t.err = s.err) ∨ (s.phase = .run ∧ t.done = false ∧ t.err = 4) ∨
      ∃ rest : List Input, s.inputs = .reset :: rest)

/-- R24: TBL_VALID rises only when the table build finishes, and falls only when `INIT_TABLES` is accepted or by a reset. -/
def Obligations.TblValidHasItsWriters : Prop :=
  ∀ s t : State, step s = .next t →
    (s.tblValid = false → t.tblValid = true → s.phase = .init ∧ t.phase = .idle ∧ t.tz = builtTables) ∧
    (s.tblValid = true → t.tblValid = false →
      (s.busy = false ∧ t.phase = .init ∧ t.opl = 0x01) ∨ ∃ rest : List Input, s.inputs = .reset :: rest)

/-- R25: DONE rises only by a finish. It falls only by an acceptance, a rejection, a bus-error abort or a reset. -/
def Obligations.DoneHasItsWriters : Prop :=
  ∀ s t : State, step s = .next t →
    (s.done = false → t.done = true → s.phase ≠ .idle ∧ t.phase = .idle ∧ t.busy = false) ∧
    (s.done = true → t.done = false →
      (s.busy = false ∧ t.busy = true) ∨ (s.busy = false ∧ t.err ∈ [1, 2]) ∨ (s.phase = .run ∧ t.err = 4) ∨
      ∃ rest : List Input, s.inputs = .reset :: rest)

/-- R26, R216: `ERR` is cleared only by an acceptance or a reset, and any other change writes the code of the error just
recorded; in particular a read never changes it. -/
def Obligations.ErrHasItsWriters : Prop :=
  ∀ s t : State, step s = .next t → t.err ≠ s.err →
    (t.err = 0 ∧ ((s.busy = false ∧ t.busy = true) ∨ ∃ rest : List Input, s.inputs = .reset :: rest)) ∨
    ∃ e : ErrCode, t.faults = s.faults ++ [e] ∧ t.err = errValue e
end

