-- ==== Sys2Proof/Laws/Memory.lean ====
section
/-!
SUPPORT. The laws of the host data space: reading after writing, and the canonical form (every memory operation keeps it).
-/

namespace Sys2Proof.Machine

@[simp] theorem Memory.read_nil (a : Nat) : Memory.read [] a = none := rfl

theorem Memory.read_cons (k : Nat) (c : Byte) (m : Memory) (a : Nat) :
    Memory.read ((k, c) :: m) a = if k = a then some c else Memory.read m a := rfl

/-- An address below every listed one has no byte. -/
theorem Memory.read_none_of_lt (m : Memory) (a : Nat) (h : ∀ c ∈ m, a < c.1) : Memory.read m a = none := by
  induction m with
  | nil => rfl
  | cons c m ih =>
    obtain ⟨k, b⟩ := c
    have hk : a < k := h (k, b) (by simp)
    rw [Memory.read_cons, if_neg (by omega)]
    exact ih fun c hc => h c (by simp [hc])

/-- A write is read back at its own address. -/
theorem Memory.read_write_same (m : Memory) (a : Nat) (b : Byte) : Memory.read (Memory.write m a b) a = some b := by
  induction m with
  | nil => simp [Memory.write, Memory.read]
  | cons c m ih =>
    obtain ⟨k, d⟩ := c
    unfold Memory.write
    split
    · simp [Memory.read]
    · split
      · simp [Memory.read]
      · rw [Memory.read_cons, if_neg (by omega)]; exact ih

/-- A write leaves every other address alone. -/
theorem Memory.read_write_other (m : Memory) (a a' : Nat) (b : Byte) (h : a' ≠ a) :
    Memory.read (Memory.write m a b) a' = Memory.read m a' := by
  induction m with
  | nil => simp [Memory.write, Memory.read, Ne.symm h]
  | cons c m ih =>
    obtain ⟨k, d⟩ := c
    unfold Memory.write
    split
    · rw [Memory.read_cons, if_neg (Ne.symm h)]
    · split
      · subst a; rw [Memory.read_cons, Memory.read_cons, if_neg (Ne.symm h), if_neg (Ne.symm h)]
      · rw [Memory.read_cons, Memory.read_cons, ih]

/-- What a write can list: the new byte and what was listed. -/
theorem Memory.mem_write (m : Memory) (a : Nat) (b : Byte) (c : Host.Cell) (h : c ∈ Memory.write m a b) :
    c = (a, b) ∨ c ∈ m := by
  induction m with
  | nil => simpa [Memory.write] using h
  | cons d m ih =>
    obtain ⟨k, e⟩ := d
    unfold Memory.write at h
    split at h
    · simpa using h
    · split at h
      · simp only [List.mem_cons] at h ⊢; tauto
      · simp only [List.mem_cons] at h ⊢
        rcases h with h | h
        · exact .inr (.inl h)
        · rcases ih h with h | h
          · exact .inl h
          · exact .inr (.inr h)

/-- A write keeps the canonical form. -/
theorem Memory.write_wf (m : Memory) (a : Nat) (b : Byte) (h : m.wf) : (Memory.write m a b).wf := by
  induction m with
  | nil => simp [Memory.write, Memory.wf]
  | cons c m ih =>
    obtain ⟨k, d⟩ := c
    obtain ⟨hk, hm⟩ := List.pairwise_cons.1 h
    unfold Memory.write
    split
    case isTrue hlt =>
      refine List.pairwise_cons.2 ⟨?_, h⟩
      intro c hc
      rcases List.mem_cons.1 hc with rfl | hc
      · exact hlt
      · exact Nat.lt_trans hlt (hk c hc)
    case isFalse hlt =>
      split
      case isTrue heq => subst heq; exact List.pairwise_cons.2 ⟨hk, hm⟩
      case isFalse hne =>
        refine List.pairwise_cons.2 ⟨?_, ih hm⟩
        intro c hc
        rcases Memory.mem_write m a b c hc with rfl | hc
        · simp; omega
        · exact hk c hc

/-- The reset memory is in canonical form. -/
theorem reset_mem_wf : State.reset.mem.wf := List.Pairwise.nil

/-! ## Reading bytes -/

/-- The answer of the memory depends only on the bytes and on the silent addresses. -/
theorem memByte_congr {s t : State} (hm : t.mem = s.mem) (hs : t.silent = s.silent) (a : Nat) :
    memByte t a = memByte s a := by simp [memByte, hm, hs]

theorem memRead_congr {s t : State} (hm : t.mem = s.mem) (hs : t.silent = s.silent) (a n : Nat) :
    memRead t a n = memRead s a n := by
  induction n generalizing a with
  | zero => rfl
  | succ n ih => simp [memRead, ih, memByte_congr hm hs]

@[simp] theorem memRead_zero (s : State) (a : Nat) : memRead s a 0 = .data [] := rfl

/-- A read that answers with data answers with exactly as many bytes as were asked for. -/
theorem memRead_length {s : State} {a n : Nat} {c : List Byte} (h : memRead s a n = .data c) : c.length = n := by
  induction n generalizing a c with
  | zero => simp only [memRead, MemAnswer.data.injEq] at h; subst h; rfl
  | succ n ih =>
    simp only [memRead] at h
    split at h <;> try contradiction
    split at h <;> try contradiction
    next bs hb => simp only [MemAnswer.data.injEq] at h; subst h; simp [ih hb]

/-- A read of `m + n` bytes is a read of `m` bytes and then of `n`. -/
theorem memRead_add {s : State} {a m n : Nat} {c : List Byte} (h : memRead s a (m + n) = .data c) :
    ∃ c1 c2, memRead s a m = .data c1 ∧ memRead s (a + m) n = .data c2 ∧ c = c1 ++ c2 := by
  induction m generalizing a c with
  | zero => exact ⟨[], c, rfl, by simpa using h, rfl⟩
  | succ m ih =>
    rw [Nat.add_right_comm] at h
    simp only [memRead] at h
    split at h <;> try contradiction
    next b hb =>
      split at h <;> try contradiction
      next bs hbs =>
        obtain ⟨c1, c2, h1, h2, rfl⟩ := ih hbs
        simp only [MemAnswer.data.injEq] at h
        subst h
        refine ⟨b :: c1, c2, ?_, ?_, rfl⟩
        · simp [memRead, hb, h1]
        · rw [Nat.add_comm m 1, ← Nat.add_assoc]; exact h2

/-- With no silent address every read answers, by data or by `BusError`. -/
theorem memRead_answers {s : State} (h : s.silent = []) (a n : Nat) : memRead s a n ≠ .noAnswer := by
  induction n generalizing a with
  | zero => simp
  | succ n ih =>
    have hb : memByte s a ≠ .noAnswer := by
      simp only [memByte, h, List.not_mem_nil, if_false]
      split <;> simp
    simp only [memRead]
    split
    · split
      · simp
      · simp
      · next h2 => exact absurd h2 (ih _)
    · simp
    · next h2 => exact absurd h2 hb

/-- A read one of whose bytes answers `BusError`, none of them silent, answers `BusError`, in whatever order it is read. -/
theorem memRead_busError {s : State} {a n k : Nat} (hk : k < n) (hb : memByte s (a + k) = .busError)
    (hs : ∀ j < n, a + j ∉ s.silent) : memRead s a n = .busError := by
  induction n generalizing a k with
  | zero => omega
  | succ n ih =>
    have ha : a ∉ s.silent := hs 0 (by omega)
    cases hm : s.mem.read a with
    | none => simp [memRead, memByte, ha, hm]
    | some b =>
      cases k with
      | zero => simp [memByte, ha, hm] at hb
      | succ k =>
        have hr : memRead s (a + 1) n = .busError :=
          ih (k := k) (by omega) (by rwa [Nat.add_right_comm, Nat.add_assoc])
            fun j hj => by rw [Nat.add_right_comm, Nat.add_assoc]; exact hs (j + 1) (by omega)
        simp [memRead, memByte, ha, hm, hr]

end Sys2Proof.Machine
end

