-- ==== Sys2Proof/Laws/State.lean ====
section
/-!
SUPPORT. One lemma per field per update of the state, true by rfl, so that no later proof unfolds a record update.
-/

namespace Sys2Proof.Machine

/-! `s.setSrc v` -/

@[simp] theorem setSrc_cfg (v : Word) (s : State) : (s.setSrc v).cfg = s.cfg := rfl
@[simp] theorem setSrc_busy (v : Word) (s : State) : (s.setSrc v).busy = s.busy := rfl
@[simp] theorem setSrc_tblValid (v : Word) (s : State) : (s.setSrc v).tblValid = s.tblValid := rfl
@[simp] theorem setSrc_done (v : Word) (s : State) : (s.setSrc v).done = s.done := rfl
@[simp] theorem setSrc_err (v : Word) (s : State) : (s.setSrc v).err = s.err := rfl
@[simp] theorem setSrc_src (v : Word) (s : State) : (s.setSrc v).src = lowBits s.cfg.addrWidth v := rfl
@[simp] theorem setSrc_len (v : Word) (s : State) : (s.setSrc v).len = s.len := rfl
@[simp] theorem setSrc_crc (v : Word) (s : State) : (s.setSrc v).crc = s.crc := rfl
@[simp] theorem setSrc_acc (v : Word) (s : State) : (s.setSrc v).acc = s.acc := rfl
@[simp] theorem setSrc_ptr (v : Word) (s : State) : (s.setSrc v).ptr = s.ptr := rfl
@[simp] theorem setSrc_rem (v : Word) (s : State) : (s.setSrc v).rem = s.rem := rfl
@[simp] theorem setSrc_opl (v : Word) (s : State) : (s.setSrc v).opl = s.opl := rfl
@[simp] theorem setSrc_phase (v : Word) (s : State) : (s.setSrc v).phase = s.phase := rfl
@[simp] theorem setSrc_tz (v : Word) (s : State) : (s.setSrc v).tz = s.tz := rfl
@[simp] theorem setSrc_mem (v : Word) (s : State) : (s.setSrc v).mem = s.mem := rfl
@[simp] theorem setSrc_silent (v : Word) (s : State) : (s.setSrc v).silent = s.silent := rfl
@[simp] theorem setSrc_faults (v : Word) (s : State) : (s.setSrc v).faults = s.faults := rfl
@[simp] theorem setSrc_reads (v : Word) (s : State) : (s.setSrc v).reads = s.reads := rfl
@[simp] theorem setSrc_draws (v : Word) (s : State) : (s.setSrc v).draws = s.draws := rfl
@[simp] theorem setSrc_inputs (v : Word) (s : State) : (s.setSrc v).inputs = s.inputs := rfl

/-! `s.setLen v` -/

@[simp] theorem setLen_cfg (v : Word) (s : State) : (s.setLen v).cfg = s.cfg := rfl
@[simp] theorem setLen_busy (v : Word) (s : State) : (s.setLen v).busy = s.busy := rfl
@[simp] theorem setLen_tblValid (v : Word) (s : State) : (s.setLen v).tblValid = s.tblValid := rfl
@[simp] theorem setLen_done (v : Word) (s : State) : (s.setLen v).done = s.done := rfl
@[simp] theorem setLen_err (v : Word) (s : State) : (s.setLen v).err = s.err := rfl
@[simp] theorem setLen_src (v : Word) (s : State) : (s.setLen v).src = s.src := rfl
@[simp] theorem setLen_len (v : Word) (s : State) : (s.setLen v).len = v := rfl
@[simp] theorem setLen_crc (v : Word) (s : State) : (s.setLen v).crc = s.crc := rfl
@[simp] theorem setLen_acc (v : Word) (s : State) : (s.setLen v).acc = s.acc := rfl
@[simp] theorem setLen_ptr (v : Word) (s : State) : (s.setLen v).ptr = s.ptr := rfl
@[simp] theorem setLen_rem (v : Word) (s : State) : (s.setLen v).rem = s.rem := rfl
@[simp] theorem setLen_opl (v : Word) (s : State) : (s.setLen v).opl = s.opl := rfl
@[simp] theorem setLen_phase (v : Word) (s : State) : (s.setLen v).phase = s.phase := rfl
@[simp] theorem setLen_tz (v : Word) (s : State) : (s.setLen v).tz = s.tz := rfl
@[simp] theorem setLen_mem (v : Word) (s : State) : (s.setLen v).mem = s.mem := rfl
@[simp] theorem setLen_silent (v : Word) (s : State) : (s.setLen v).silent = s.silent := rfl
@[simp] theorem setLen_faults (v : Word) (s : State) : (s.setLen v).faults = s.faults := rfl
@[simp] theorem setLen_reads (v : Word) (s : State) : (s.setLen v).reads = s.reads := rfl
@[simp] theorem setLen_draws (v : Word) (s : State) : (s.setLen v).draws = s.draws := rfl
@[simp] theorem setLen_inputs (v : Word) (s : State) : (s.setLen v).inputs = s.inputs := rfl

/-! `s.setCrc v` -/

@[simp] theorem setCrc_cfg (v : Word) (s : State) : (s.setCrc v).cfg = s.cfg := rfl
@[simp] theorem setCrc_busy (v : Word) (s : State) : (s.setCrc v).busy = s.busy := rfl
@[simp] theorem setCrc_tblValid (v : Word) (s : State) : (s.setCrc v).tblValid = s.tblValid := rfl
@[simp] theorem setCrc_done (v : Word) (s : State) : (s.setCrc v).done = s.done := rfl
@[simp] theorem setCrc_err (v : Word) (s : State) : (s.setCrc v).err = s.err := rfl
@[simp] theorem setCrc_src (v : Word) (s : State) : (s.setCrc v).src = s.src := rfl
@[simp] theorem setCrc_len (v : Word) (s : State) : (s.setCrc v).len = s.len := rfl
@[simp] theorem setCrc_crc (v : Word) (s : State) : (s.setCrc v).crc = v := rfl
@[simp] theorem setCrc_acc (v : Word) (s : State) : (s.setCrc v).acc = s.acc := rfl
@[simp] theorem setCrc_ptr (v : Word) (s : State) : (s.setCrc v).ptr = s.ptr := rfl
@[simp] theorem setCrc_rem (v : Word) (s : State) : (s.setCrc v).rem = s.rem := rfl
@[simp] theorem setCrc_opl (v : Word) (s : State) : (s.setCrc v).opl = s.opl := rfl
@[simp] theorem setCrc_phase (v : Word) (s : State) : (s.setCrc v).phase = s.phase := rfl
@[simp] theorem setCrc_tz (v : Word) (s : State) : (s.setCrc v).tz = s.tz := rfl
@[simp] theorem setCrc_mem (v : Word) (s : State) : (s.setCrc v).mem = s.mem := rfl
@[simp] theorem setCrc_silent (v : Word) (s : State) : (s.setCrc v).silent = s.silent := rfl
@[simp] theorem setCrc_faults (v : Word) (s : State) : (s.setCrc v).faults = s.faults := rfl
@[simp] theorem setCrc_reads (v : Word) (s : State) : (s.setCrc v).reads = s.reads := rfl
@[simp] theorem setCrc_draws (v : Word) (s : State) : (s.setCrc v).draws = s.draws := rfl
@[simp] theorem setCrc_inputs (v : Word) (s : State) : (s.setCrc v).inputs = s.inputs := rfl

/-! `raiseError e s` -/

@[simp] theorem raiseError_cfg (e : ErrCode) (s : State) : (raiseError e s).cfg = s.cfg := rfl
@[simp] theorem raiseError_busy (e : ErrCode) (s : State) : (raiseError e s).busy = s.busy := rfl
@[simp] theorem raiseError_tblValid (e : ErrCode) (s : State) : (raiseError e s).tblValid = s.tblValid := rfl
@[simp] theorem raiseError_done (e : ErrCode) (s : State) : (raiseError e s).done = s.done := rfl
@[simp] theorem raiseError_err (e : ErrCode) (s : State) : (raiseError e s).err = errValue e := rfl
@[simp] theorem raiseError_src (e : ErrCode) (s : State) : (raiseError e s).src = s.src := rfl
@[simp] theorem raiseError_len (e : ErrCode) (s : State) : (raiseError e s).len = s.len := rfl
@[simp] theorem raiseError_crc (e : ErrCode) (s : State) : (raiseError e s).crc = s.crc := rfl
@[simp] theorem raiseError_acc (e : ErrCode) (s : State) : (raiseError e s).acc = s.acc := rfl
@[simp] theorem raiseError_ptr (e : ErrCode) (s : State) : (raiseError e s).ptr = s.ptr := rfl
@[simp] theorem raiseError_rem (e : ErrCode) (s : State) : (raiseError e s).rem = s.rem := rfl
@[simp] theorem raiseError_opl (e : ErrCode) (s : State) : (raiseError e s).opl = s.opl := rfl
@[simp] theorem raiseError_phase (e : ErrCode) (s : State) : (raiseError e s).phase = s.phase := rfl
@[simp] theorem raiseError_tz (e : ErrCode) (s : State) : (raiseError e s).tz = s.tz := rfl
@[simp] theorem raiseError_mem (e : ErrCode) (s : State) : (raiseError e s).mem = s.mem := rfl
@[simp] theorem raiseError_silent (e : ErrCode) (s : State) : (raiseError e s).silent = s.silent := rfl
@[simp] theorem raiseError_faults (e : ErrCode) (s : State) : (raiseError e s).faults = s.faults ++ [e] := rfl
@[simp] theorem raiseError_reads (e : ErrCode) (s : State) : (raiseError e s).reads = s.reads := rfl
@[simp] theorem raiseError_draws (e : ErrCode) (s : State) : (raiseError e s).draws = s.draws := rfl
@[simp] theorem raiseError_inputs (e : ErrCode) (s : State) : (raiseError e s).inputs = s.inputs := rfl

/-! `reject e s` -/

@[simp] theorem reject_cfg (e : ErrCode) (s : State) : (reject e s).cfg = s.cfg := rfl
@[simp] theorem reject_busy (e : ErrCode) (s : State) : (reject e s).busy = s.busy := rfl
@[simp] theorem reject_tblValid (e : ErrCode) (s : State) : (reject e s).tblValid = s.tblValid := rfl
@[simp] theorem reject_done (e : ErrCode) (s : State) : (reject e s).done = false := rfl
@[simp] theorem reject_err (e : ErrCode) (s : State) : (reject e s).err = errValue e := rfl
@[simp] theorem reject_src (e : ErrCode) (s : State) : (reject e s).src = s.src := rfl
@[simp] theorem reject_len (e : ErrCode) (s : State) : (reject e s).len = s.len := rfl
@[simp] theorem reject_crc (e : ErrCode) (s : State) : (reject e s).crc = s.crc := rfl
@[simp] theorem reject_acc (e : ErrCode) (s : State) : (reject e s).acc = s.acc := rfl
@[simp] theorem reject_ptr (e : ErrCode) (s : State) : (reject e s).ptr = s.ptr := rfl
@[simp] theorem reject_rem (e : ErrCode) (s : State) : (reject e s).rem = s.rem := rfl
@[simp] theorem reject_opl (e : ErrCode) (s : State) : (reject e s).opl = s.opl := rfl
@[simp] theorem reject_phase (e : ErrCode) (s : State) : (reject e s).phase = s.phase := rfl
@[simp] theorem reject_tz (e : ErrCode) (s : State) : (reject e s).tz = s.tz := rfl
@[simp] theorem reject_mem (e : ErrCode) (s : State) : (reject e s).mem = s.mem := rfl
@[simp] theorem reject_silent (e : ErrCode) (s : State) : (reject e s).silent = s.silent := rfl
@[simp] theorem reject_faults (e : ErrCode) (s : State) : (reject e s).faults = s.faults ++ [e] := rfl
@[simp] theorem reject_reads (e : ErrCode) (s : State) : (reject e s).reads = s.reads := rfl
@[simp] theorem reject_draws (e : ErrCode) (s : State) : (reject e s).draws = s.draws := rfl
@[simp] theorem reject_inputs (e : ErrCode) (s : State) : (reject e s).inputs = s.inputs := rfl

/-! `flagsOfAcceptance s` -/

@[simp] theorem flagsOfAcceptance_cfg (s : State) : (flagsOfAcceptance s).cfg = s.cfg := rfl
@[simp] theorem flagsOfAcceptance_busy (s : State) : (flagsOfAcceptance s).busy = true := rfl
@[simp] theorem flagsOfAcceptance_tblValid (s : State) : (flagsOfAcceptance s).tblValid = s.tblValid := rfl
@[simp] theorem flagsOfAcceptance_done (s : State) : (flagsOfAcceptance s).done = false := rfl
@[simp] theorem flagsOfAcceptance_err (s : State) : (flagsOfAcceptance s).err = 0 := rfl
@[simp] theorem flagsOfAcceptance_src (s : State) : (flagsOfAcceptance s).src = s.src := rfl
@[simp] theorem flagsOfAcceptance_len (s : State) : (flagsOfAcceptance s).len = s.len := rfl
@[simp] theorem flagsOfAcceptance_crc (s : State) : (flagsOfAcceptance s).crc = s.crc := rfl
@[simp] theorem flagsOfAcceptance_acc (s : State) : (flagsOfAcceptance s).acc = s.acc := rfl
@[simp] theorem flagsOfAcceptance_ptr (s : State) : (flagsOfAcceptance s).ptr = s.ptr := rfl
@[simp] theorem flagsOfAcceptance_rem (s : State) : (flagsOfAcceptance s).rem = s.rem := rfl
@[simp] theorem flagsOfAcceptance_opl (s : State) : (flagsOfAcceptance s).opl = s.opl := rfl
@[simp] theorem flagsOfAcceptance_phase (s : State) : (flagsOfAcceptance s).phase = s.phase := rfl
@[simp] theorem flagsOfAcceptance_tz (s : State) : (flagsOfAcceptance s).tz = s.tz := rfl
@[simp] theorem flagsOfAcceptance_mem (s : State) : (flagsOfAcceptance s).mem = s.mem := rfl
@[simp] theorem flagsOfAcceptance_silent (s : State) : (flagsOfAcceptance s).silent = s.silent := rfl
@[simp] theorem flagsOfAcceptance_faults (s : State) : (flagsOfAcceptance s).faults = s.faults := rfl
@[simp] theorem flagsOfAcceptance_reads (s : State) : (flagsOfAcceptance s).reads = s.reads := rfl
@[simp] theorem flagsOfAcceptance_draws (s : State) : (flagsOfAcceptance s).draws = s.draws := rfl
@[simp] theorem flagsOfAcceptance_inputs (s : State) : (flagsOfAcceptance s).inputs = s.inputs := rfl

/-! `flagsOfFinish s` -/

@[simp] theorem flagsOfFinish_cfg (s : State) : (flagsOfFinish s).cfg = s.cfg := rfl
@[simp] theorem flagsOfFinish_busy (s : State) : (flagsOfFinish s).busy = false := rfl
@[simp] theorem flagsOfFinish_tblValid (s : State) : (flagsOfFinish s).tblValid = s.tblValid := rfl
@[simp] theorem flagsOfFinish_done (s : State) : (flagsOfFinish s).done = true := rfl
@[simp] theorem flagsOfFinish_err (s : State) : (flagsOfFinish s).err = s.err := rfl
@[simp] theorem flagsOfFinish_src (s : State) : (flagsOfFinish s).src = s.src := rfl
@[simp] theorem flagsOfFinish_len (s : State) : (flagsOfFinish s).len = s.len := rfl
@[simp] theorem flagsOfFinish_crc (s : State) : (flagsOfFinish s).crc = s.crc := rfl
@[simp] theorem flagsOfFinish_acc (s : State) : (flagsOfFinish s).acc = s.acc := rfl
@[simp] theorem flagsOfFinish_ptr (s : State) : (flagsOfFinish s).ptr = s.ptr := rfl
@[simp] theorem flagsOfFinish_rem (s : State) : (flagsOfFinish s).rem = s.rem := rfl
@[simp] theorem flagsOfFinish_opl (s : State) : (flagsOfFinish s).opl = s.opl := rfl
@[simp] theorem flagsOfFinish_phase (s : State) : (flagsOfFinish s).phase = .idle := rfl
@[simp] theorem flagsOfFinish_tz (s : State) : (flagsOfFinish s).tz = s.tz := rfl
@[simp] theorem flagsOfFinish_mem (s : State) : (flagsOfFinish s).mem = s.mem := rfl
@[simp] theorem flagsOfFinish_silent (s : State) : (flagsOfFinish s).silent = s.silent := rfl
@[simp] theorem flagsOfFinish_faults (s : State) : (flagsOfFinish s).faults = s.faults := rfl
@[simp] theorem flagsOfFinish_reads (s : State) : (flagsOfFinish s).reads = s.reads := rfl
@[simp] theorem flagsOfFinish_draws (s : State) : (flagsOfFinish s).draws = s.draws := rfl
@[simp] theorem flagsOfFinish_inputs (s : State) : (flagsOfFinish s).inputs = s.inputs := rfl

/-! `flagsOfAbort s` -/

@[simp] theorem flagsOfAbort_cfg (s : State) : (flagsOfAbort s).cfg = s.cfg := rfl
@[simp] theorem flagsOfAbort_busy (s : State) : (flagsOfAbort s).busy = false := rfl
@[simp] theorem flagsOfAbort_tblValid (s : State) : (flagsOfAbort s).tblValid = s.tblValid := rfl
@[simp] theorem flagsOfAbort_done (s : State) : (flagsOfAbort s).done = false := rfl
@[simp] theorem flagsOfAbort_err (s : State) : (flagsOfAbort s).err = s.err := rfl
@[simp] theorem flagsOfAbort_src (s : State) : (flagsOfAbort s).src = s.src := rfl
@[simp] theorem flagsOfAbort_len (s : State) : (flagsOfAbort s).len = s.len := rfl
@[simp] theorem flagsOfAbort_crc (s : State) : (flagsOfAbort s).crc = s.crc := rfl
@[simp] theorem flagsOfAbort_acc (s : State) : (flagsOfAbort s).acc = s.acc := rfl
@[simp] theorem flagsOfAbort_ptr (s : State) : (flagsOfAbort s).ptr = s.ptr := rfl
@[simp] theorem flagsOfAbort_rem (s : State) : (flagsOfAbort s).rem = s.rem := rfl
@[simp] theorem flagsOfAbort_opl (s : State) : (flagsOfAbort s).opl = s.opl := rfl
@[simp] theorem flagsOfAbort_phase (s : State) : (flagsOfAbort s).phase = .idle := rfl
@[simp] theorem flagsOfAbort_tz (s : State) : (flagsOfAbort s).tz = s.tz := rfl
@[simp] theorem flagsOfAbort_mem (s : State) : (flagsOfAbort s).mem = s.mem := rfl
@[simp] theorem flagsOfAbort_silent (s : State) : (flagsOfAbort s).silent = s.silent := rfl
@[simp] theorem flagsOfAbort_faults (s : State) : (flagsOfAbort s).faults = s.faults := rfl
@[simp] theorem flagsOfAbort_reads (s : State) : (flagsOfAbort s).reads = s.reads := rfl
@[simp] theorem flagsOfAbort_draws (s : State) : (flagsOfAbort s).draws = s.draws := rfl
@[simp] theorem flagsOfAbort_inputs (s : State) : (flagsOfAbort s).inputs = s.inputs := rfl

/-! `finish f s` -/

@[simp] theorem finish_cfg (f : Family) (s : State) : (finish f s).cfg = s.cfg := rfl
@[simp] theorem finish_busy (f : Family) (s : State) : (finish f s).busy = false := rfl
@[simp] theorem finish_tblValid (f : Family) (s : State) : (finish f s).tblValid = s.tblValid := rfl
@[simp] theorem finish_done (f : Family) (s : State) : (finish f s).done = true := rfl
@[simp] theorem finish_err (f : Family) (s : State) : (finish f s).err = s.err := rfl
@[simp] theorem finish_src (f : Family) (s : State) : (finish f s).src = s.src := rfl
@[simp] theorem finish_len (f : Family) (s : State) : (finish f s).len = s.len := rfl
@[simp] theorem finish_crc (f : Family) (s : State) : (finish f s).crc = exitValue f s.acc := rfl
@[simp] theorem finish_acc (f : Family) (s : State) : (finish f s).acc = s.acc := rfl
@[simp] theorem finish_ptr (f : Family) (s : State) : (finish f s).ptr = s.ptr := rfl
@[simp] theorem finish_rem (f : Family) (s : State) : (finish f s).rem = s.rem := rfl
@[simp] theorem finish_opl (f : Family) (s : State) : (finish f s).opl = s.opl := rfl
@[simp] theorem finish_phase (f : Family) (s : State) : (finish f s).phase = .idle := rfl
@[simp] theorem finish_tz (f : Family) (s : State) : (finish f s).tz = s.tz := rfl
@[simp] theorem finish_mem (f : Family) (s : State) : (finish f s).mem = s.mem := rfl
@[simp] theorem finish_silent (f : Family) (s : State) : (finish f s).silent = s.silent := rfl
@[simp] theorem finish_faults (f : Family) (s : State) : (finish f s).faults = s.faults := rfl
@[simp] theorem finish_reads (f : Family) (s : State) : (finish f s).reads = s.reads := rfl
@[simp] theorem finish_draws (f : Family) (s : State) : (finish f s).draws = s.draws := rfl
@[simp] theorem finish_inputs (f : Family) (s : State) : (finish f s).inputs = s.inputs := rfl

/-! `abort s` -/

@[simp] theorem abort_cfg (s : State) : (abort s).cfg = s.cfg := rfl
@[simp] theorem abort_busy (s : State) : (abort s).busy = false := rfl
@[simp] theorem abort_tblValid (s : State) : (abort s).tblValid = s.tblValid := rfl
@[simp] theorem abort_done (s : State) : (abort s).done = false := rfl
@[simp] theorem abort_err (s : State) : (abort s).err = 4 := rfl
@[simp] theorem abort_src (s : State) : (abort s).src = s.src := rfl
@[simp] theorem abort_len (s : State) : (abort s).len = s.len := rfl
@[simp] theorem abort_crc (s : State) : (abort s).crc = s.crc := rfl
@[simp] theorem abort_acc (s : State) : (abort s).acc = s.acc := rfl
@[simp] theorem abort_ptr (s : State) : (abort s).ptr = s.ptr := rfl
@[simp] theorem abort_rem (s : State) : (abort s).rem = s.rem := rfl
@[simp] theorem abort_opl (s : State) : (abort s).opl = s.opl := rfl
@[simp] theorem abort_phase (s : State) : (abort s).phase = .idle := rfl
@[simp] theorem abort_tz (s : State) : (abort s).tz = s.tz := rfl
@[simp] theorem abort_mem (s : State) : (abort s).mem = s.mem := rfl
@[simp] theorem abort_silent (s : State) : (abort s).silent = s.silent := rfl
@[simp] theorem abort_faults (s : State) : (abort s).faults = s.faults ++ [.bus] := rfl
@[simp] theorem abort_reads (s : State) : (abort s).reads = s.reads := rfl
@[simp] theorem abort_draws (s : State) : (abort s).draws = s.draws := rfl
@[simp] theorem abort_inputs (s : State) : (abort s).inputs = s.inputs := rfl

/-! `consume n s` -/

@[simp] theorem consume_cfg (n : Nat) (s : State) : (consume n s).cfg = s.cfg := rfl
@[simp] theorem consume_busy (n : Nat) (s : State) : (consume n s).busy = s.busy := rfl
@[simp] theorem consume_tblValid (n : Nat) (s : State) : (consume n s).tblValid = s.tblValid := rfl
@[simp] theorem consume_done (n : Nat) (s : State) : (consume n s).done = s.done := rfl
@[simp] theorem consume_err (n : Nat) (s : State) : (consume n s).err = s.err := rfl
@[simp] theorem consume_src (n : Nat) (s : State) : (consume n s).src = s.src := rfl
@[simp] theorem consume_len (n : Nat) (s : State) : (consume n s).len = s.len := rfl
@[simp] theorem consume_crc (n : Nat) (s : State) : (consume n s).crc = s.crc := rfl
@[simp] theorem consume_acc (n : Nat) (s : State) : (consume n s).acc = s.acc := rfl
@[simp] theorem consume_ptr (n : Nat) (s : State) : (consume n s).ptr = s.ptr + BitVec.ofNat 33 n := rfl
@[simp] theorem consume_rem (n : Nat) (s : State) : (consume n s).rem = s.rem - BitVec.ofNat 32 n := rfl
@[simp] theorem consume_opl (n : Nat) (s : State) : (consume n s).opl = s.opl := rfl
@[simp] theorem consume_phase (n : Nat) (s : State) : (consume n s).phase = s.phase := rfl
@[simp] theorem consume_tz (n : Nat) (s : State) : (consume n s).tz = s.tz := rfl
@[simp] theorem consume_mem (n : Nat) (s : State) : (consume n s).mem = s.mem := rfl
@[simp] theorem consume_silent (n : Nat) (s : State) : (consume n s).silent = s.silent := rfl
@[simp] theorem consume_faults (n : Nat) (s : State) : (consume n s).faults = s.faults := rfl
@[simp] theorem consume_reads (n : Nat) (s : State) : (consume n s).reads = s.reads := rfl
@[simp] theorem consume_draws (n : Nat) (s : State) : (consume n s).draws = s.draws := rfl
@[simp] theorem consume_inputs (n : Nat) (s : State) : (consume n s).inputs = s.inputs := rfl

/-! `updateAcc g s` -/

@[simp] theorem updateAcc_cfg (g : Word → Word) (s : State) : (updateAcc g s).cfg = s.cfg := rfl
@[simp] theorem updateAcc_busy (g : Word → Word) (s : State) : (updateAcc g s).busy = s.busy := rfl
@[simp] theorem updateAcc_tblValid (g : Word → Word) (s : State) : (updateAcc g s).tblValid = s.tblValid := rfl
@[simp] theorem updateAcc_done (g : Word → Word) (s : State) : (updateAcc g s).done = s.done := rfl
@[simp] theorem updateAcc_err (g : Word → Word) (s : State) : (updateAcc g s).err = s.err := rfl
@[simp] theorem updateAcc_src (g : Word → Word) (s : State) : (updateAcc g s).src = s.src := rfl
@[simp] theorem updateAcc_len (g : Word → Word) (s : State) : (updateAcc g s).len = s.len := rfl
@[simp] theorem updateAcc_crc (g : Word → Word) (s : State) : (updateAcc g s).crc = s.crc := rfl
@[simp] theorem updateAcc_acc (g : Word → Word) (s : State) : (updateAcc g s).acc = g s.acc := rfl
@[simp] theorem updateAcc_ptr (g : Word → Word) (s : State) : (updateAcc g s).ptr = s.ptr := rfl
@[simp] theorem updateAcc_rem (g : Word → Word) (s : State) : (updateAcc g s).rem = s.rem := rfl
@[simp] theorem updateAcc_opl (g : Word → Word) (s : State) : (updateAcc g s).opl = s.opl := rfl
@[simp] theorem updateAcc_phase (g : Word → Word) (s : State) : (updateAcc g s).phase = s.phase := rfl
@[simp] theorem updateAcc_tz (g : Word → Word) (s : State) : (updateAcc g s).tz = s.tz := rfl
@[simp] theorem updateAcc_mem (g : Word → Word) (s : State) : (updateAcc g s).mem = s.mem := rfl
@[simp] theorem updateAcc_silent (g : Word → Word) (s : State) : (updateAcc g s).silent = s.silent := rfl
@[simp] theorem updateAcc_faults (g : Word → Word) (s : State) : (updateAcc g s).faults = s.faults := rfl
@[simp] theorem updateAcc_reads (g : Word → Word) (s : State) : (updateAcc g s).reads = s.reads := rfl
@[simp] theorem updateAcc_draws (g : Word → Word) (s : State) : (updateAcc g s).draws = s.draws := rfl
@[simp] theorem updateAcc_inputs (g : Word → Word) (s : State) : (updateAcc g s).inputs = s.inputs := rfl

/-! `s.withFetchWord n w` -/

@[simp] theorem withFetchWord_cfg (n w : Nat) (s : State) : (s.withFetchWord n w).cfg = s.cfg := rfl
@[simp] theorem withFetchWord_busy (n w : Nat) (s : State) : (s.withFetchWord n w).busy = s.busy := rfl
@[simp] theorem withFetchWord_tblValid (n w : Nat) (s : State) : (s.withFetchWord n w).tblValid = s.tblValid := rfl
@[simp] theorem withFetchWord_done (n w : Nat) (s : State) : (s.withFetchWord n w).done = s.done := rfl
@[simp] theorem withFetchWord_err (n w : Nat) (s : State) : (s.withFetchWord n w).err = s.err := rfl
@[simp] theorem withFetchWord_src (n w : Nat) (s : State) : (s.withFetchWord n w).src = s.src := rfl
@[simp] theorem withFetchWord_len (n w : Nat) (s : State) : (s.withFetchWord n w).len = s.len := rfl
@[simp] theorem withFetchWord_crc (n w : Nat) (s : State) : (s.withFetchWord n w).crc = s.crc := rfl
@[simp] theorem withFetchWord_acc (n w : Nat) (s : State) : (s.withFetchWord n w).acc = s.acc := rfl
@[simp] theorem withFetchWord_ptr (n w : Nat) (s : State) : (s.withFetchWord n w).ptr = s.ptr := rfl
@[simp] theorem withFetchWord_rem (n w : Nat) (s : State) : (s.withFetchWord n w).rem = s.rem := rfl
@[simp] theorem withFetchWord_opl (n w : Nat) (s : State) : (s.withFetchWord n w).opl = s.opl := rfl
@[simp] theorem withFetchWord_phase (n w : Nat) (s : State) : (s.withFetchWord n w).phase = s.phase := rfl
@[simp] theorem withFetchWord_tz (n w : Nat) (s : State) : (s.withFetchWord n w).tz = s.tz := rfl
@[simp] theorem withFetchWord_mem (n w : Nat) (s : State) : (s.withFetchWord n w).mem = s.mem := rfl
@[simp] theorem withFetchWord_silent (n w : Nat) (s : State) : (s.withFetchWord n w).silent = s.silent := rfl
@[simp] theorem withFetchWord_faults (n w : Nat) (s : State) : (s.withFetchWord n w).faults = s.faults := rfl
@[simp] theorem withFetchWord_reads (n w : Nat) (s : State) : (s.withFetchWord n w).reads = s.reads := rfl
@[simp] theorem withFetchWord_draws (n w : Nat) (s : State) : (s.withFetchWord n w).draws = s.draws := rfl
@[simp] theorem withFetchWord_inputs (n w : Nat) (s : State) : (s.withFetchWord n w).inputs = .transfer (tableTransfer n w) :: s.inputs := rfl

/-! `resetEvent s` -/

@[simp] theorem resetEvent_cfg (s : State) : (resetEvent s).cfg = s.cfg := rfl
@[simp] theorem resetEvent_busy (s : State) : (resetEvent s).busy = false := rfl
@[simp] theorem resetEvent_tblValid (s : State) : (resetEvent s).tblValid = false := rfl
@[simp] theorem resetEvent_done (s : State) : (resetEvent s).done = false := rfl
@[simp] theorem resetEvent_err (s : State) : (resetEvent s).err = 0 := rfl
@[simp] theorem resetEvent_src (s : State) : (resetEvent s).src = 0 := rfl
@[simp] theorem resetEvent_len (s : State) : (resetEvent s).len = 0 := rfl
@[simp] theorem resetEvent_crc (s : State) : (resetEvent s).crc = 0 := rfl
@[simp] theorem resetEvent_acc (s : State) : (resetEvent s).acc = 0 := rfl
@[simp] theorem resetEvent_ptr (s : State) : (resetEvent s).ptr = 0 := rfl
@[simp] theorem resetEvent_rem (s : State) : (resetEvent s).rem = 0 := rfl
@[simp] theorem resetEvent_opl (s : State) : (resetEvent s).opl = 0 := rfl
@[simp] theorem resetEvent_phase (s : State) : (resetEvent s).phase = .idle := rfl
@[simp] theorem resetEvent_tz (s : State) : (resetEvent s).tz = [] := rfl
@[simp] theorem resetEvent_mem (s : State) : (resetEvent s).mem = s.mem := rfl
@[simp] theorem resetEvent_silent (s : State) : (resetEvent s).silent = s.silent := rfl
@[simp] theorem resetEvent_faults (s : State) : (resetEvent s).faults = s.faults := rfl
@[simp] theorem resetEvent_reads (s : State) : (resetEvent s).reads = s.reads := rfl
@[simp] theorem resetEvent_draws (s : State) : (resetEvent s).draws = s.draws := rfl
@[simp] theorem resetEvent_inputs (s : State) : (resetEvent s).inputs = s.inputs := rfl

/-! `accept .initTables s` -/

@[simp] theorem acceptInit_cfg (s : State) : (accept .initTables s).cfg = s.cfg := rfl
@[simp] theorem acceptInit_busy (s : State) : (accept .initTables s).busy = true := rfl
@[simp] theorem acceptInit_tblValid (s : State) : (accept .initTables s).tblValid = false := rfl
@[simp] theorem acceptInit_done (s : State) : (accept .initTables s).done = false := rfl
@[simp] theorem acceptInit_err (s : State) : (accept .initTables s).err = 0 := rfl
@[simp] theorem acceptInit_src (s : State) : (accept .initTables s).src = s.src := rfl
@[simp] theorem acceptInit_len (s : State) : (accept .initTables s).len = s.len := rfl
@[simp] theorem acceptInit_crc (s : State) : (accept .initTables s).crc = s.crc := rfl
@[simp] theorem acceptInit_acc (s : State) : (accept .initTables s).acc = s.acc := rfl
@[simp] theorem acceptInit_ptr (s : State) : (accept .initTables s).ptr = s.ptr := rfl
@[simp] theorem acceptInit_rem (s : State) : (accept .initTables s).rem = s.rem := rfl
@[simp] theorem acceptInit_opl (s : State) : (accept .initTables s).opl = encodeOpcode .initTables := rfl
@[simp] theorem acceptInit_phase (s : State) : (accept .initTables s).phase = .init := rfl
@[simp] theorem acceptInit_tz (s : State) : (accept .initTables s).tz = s.tz := rfl
@[simp] theorem acceptInit_mem (s : State) : (accept .initTables s).mem = s.mem := rfl
@[simp] theorem acceptInit_silent (s : State) : (accept .initTables s).silent = s.silent := rfl
@[simp] theorem acceptInit_faults (s : State) : (accept .initTables s).faults = s.faults := rfl
@[simp] theorem acceptInit_reads (s : State) : (accept .initTables s).reads = s.reads := rfl
@[simp] theorem acceptInit_draws (s : State) : (accept .initTables s).draws = s.draws := rfl
@[simp] theorem acceptInit_inputs (s : State) : (accept .initTables s).inputs = s.inputs := rfl

/-! `accept (.checksum v) s` -/

@[simp] theorem acceptChecksum_cfg (v : Variant) (s : State) : (accept (.checksum v) s).cfg = s.cfg := rfl
@[simp] theorem acceptChecksum_busy (v : Variant) (s : State) : (accept (.checksum v) s).busy = true := rfl
@[simp] theorem acceptChecksum_tblValid (v : Variant) (s : State) : (accept (.checksum v) s).tblValid = s.tblValid := rfl
@[simp] theorem acceptChecksum_done (v : Variant) (s : State) : (accept (.checksum v) s).done = false := rfl
@[simp] theorem acceptChecksum_err (v : Variant) (s : State) : (accept (.checksum v) s).err = 0 := rfl
@[simp] theorem acceptChecksum_src (v : Variant) (s : State) : (accept (.checksum v) s).src = s.src := rfl
@[simp] theorem acceptChecksum_len (v : Variant) (s : State) : (accept (.checksum v) s).len = s.len := rfl
@[simp] theorem acceptChecksum_crc (v : Variant) (s : State) : (accept (.checksum v) s).crc = s.crc := rfl
@[simp] theorem acceptChecksum_acc (v : Variant) (s : State) : (accept (.checksum v) s).acc = entryValue (variantFamily v) s.crc := rfl
@[simp] theorem acceptChecksum_ptr (v : Variant) (s : State) : (accept (.checksum v) s).ptr = s.srcValue.setWidth 33 := rfl
@[simp] theorem acceptChecksum_rem (v : Variant) (s : State) : (accept (.checksum v) s).rem = s.len := rfl
@[simp] theorem acceptChecksum_opl (v : Variant) (s : State) : (accept (.checksum v) s).opl = encodeOpcode (.checksum v) := rfl
@[simp] theorem acceptChecksum_phase (v : Variant) (s : State) : (accept (.checksum v) s).phase = .run := rfl
@[simp] theorem acceptChecksum_tz (v : Variant) (s : State) : (accept (.checksum v) s).tz = s.tz := rfl
@[simp] theorem acceptChecksum_mem (v : Variant) (s : State) : (accept (.checksum v) s).mem = s.mem := rfl
@[simp] theorem acceptChecksum_silent (v : Variant) (s : State) : (accept (.checksum v) s).silent = s.silent := rfl
@[simp] theorem acceptChecksum_faults (v : Variant) (s : State) : (accept (.checksum v) s).faults = s.faults := rfl
@[simp] theorem acceptChecksum_reads (v : Variant) (s : State) : (accept (.checksum v) s).reads = s.reads := rfl
@[simp] theorem acceptChecksum_draws (v : Variant) (s : State) : (accept (.checksum v) s).draws = s.draws := rfl
@[simp] theorem acceptChecksum_inputs (v : Variant) (s : State) : (accept (.checksum v) s).inputs = s.inputs := rfl

end Sys2Proof.Machine
end

