-- ==== Sys2Proof/Laws/Ops.lean ====
section
/-!
SUPPORT. One lemma per shared operation that says once everything it can do, and from them the inversion lemmas of an
instruction, of an engine unit and of a step, which proofs cite instead of unfolding.
-/

namespace Sys2Proof.Machine

/-! ## Register fields -/

@[simp] theorem lowBits_toNat (n : Nat) (v : Word) : (lowBits n v).toNat = v.toNat % 2 ^ n := by
  have h : v.toNat % 2 ^ n ≤ v.toNat := Nat.mod_le _ _
  have hv := v.isLt
  simp only [lowBits, BitVec.toNat_ofNat]
  exact Nat.mod_eq_of_lt (by omega)

theorem srcValue_toNat (s : State) : s.srcValue.toNat = s.src.toNat % 2 ^ s.cfg.addrWidth := lowBits_toNat _ _

/-- Writing the low bits and reading them back through the accessor gives the low bits. -/
@[simp] theorem setSrc_srcValue (s : State) (v : Word) : (s.setSrc v).srcValue = lowBits s.cfg.addrWidth v := by
  apply BitVec.eq_of_toNat_eq
  simp [State.srcValue]

/-- `exit_F` undoes `entry_F` (R13). -/
@[simp] theorem exit_entry (f : Family) (c : Word) : exitValue f (entryValue f c) = c := by
  cases f <;> simp [exitValue, entryValue]

@[simp] theorem entry_exit (f : Family) (c : Word) : entryValue f (exitValue f c) = c := by
  cases f <;> simp [exitValue, entryValue]

/-! ## Opcodes -/

@[simp] theorem decodeOpcode_encodeOpcode (c : Command) : decodeOpcode (encodeOpcode c) = .ok c := by
  cases c with
  | initTables => rfl
  | checksum v => cases v <;> rfl

/-- The opcode map is read back by the encoder. -/
theorem encodeOpcode_of_decodeOpcode : ∀ (op : Opcode) (c : Command), decodeOpcode op = .ok c → op = encodeOpcode c := by
  intro op c h
  have key : ∀ op : Opcode, ∀ c, decodeOpcode op = .ok c → op = encodeOpcode c := by
    intro op c h
    unfold decodeOpcode at h
    split at h <;> simp only [Except.ok.injEq, reduceCtorEq] at h <;> subst h <;>
      (apply BitVec.eq_of_toNat_eq; simpa [encodeOpcode])
  exact key op c h

/-! ## Command requests -/

theorem rangeOk_iff (s : State) :
    rangeOk s = true ↔ s.srcValue.toNat + s.len.toNat ≤ 2 ^ s.cfg.addrWidth := by
  unfold rangeOk; exact decide_eq_true_iff

theorem rangeOk_false_iff (s : State) :
    rangeOk s = false ↔ 2 ^ s.cfg.addrWidth < s.srcValue.toNat + s.len.toNat := by
  rw [← Bool.not_eq_true, rangeOk_iff, Nat.not_le]

/-- Everything a command request can do (R192). -/
theorem commandRequest_cases (d : Except DecodeError Command) (s : State) :
    (s.busy = true ∧ commandRequest d s = .next (raiseError .busy s)) ∨
    (s.busy = false ∧ ((∃ e, d = .error e) ∧ commandRequest d s = .next (reject .illegal s) ∨
      d = .ok .initTables ∧ commandRequest d s = .next (accept .initTables s) ∨
      ∃ v, d = .ok (.checksum v) ∧
        (rangeOk s = true ∧ commandRequest d s = .next (accept (.checksum v) s) ∨
         rangeOk s = false ∧ commandRequest d s = .next (reject .range s)))) := by
  unfold commandRequest
  cases hb : s.busy
  · refine .inr ⟨rfl, ?_⟩
    match d with
    | .error e => exact .inl ⟨⟨e, rfl⟩, by simp⟩
    | .ok .initTables => exact .inr (.inl ⟨rfl, by simp⟩)
    | .ok (.checksum v) =>
      refine .inr (.inr ⟨v, rfl, ?_⟩)
      cases hr : rangeOk s
      · exact .inr ⟨rfl, by simp⟩
      · exact .inl ⟨rfl, by simp⟩
  · exact .inl ⟨rfl, by simp⟩

theorem registerWrite_busy (w : State → State) {s : State} (h : s.busy = true) :
    registerWrite w s = .next (raiseError .busy s) := by simp [registerWrite, h]

theorem registerWrite_idle (w : State → State) {s : State} (h : s.busy = false) :
    registerWrite w s = .next (w s) := by simp [registerWrite, h]

theorem checkImplemented_ok {l : List Variant} {c c' : Command} (h : checkImplemented l c = .ok c') :
    c' = c ∧ (c = .initTables ∨ ∃ v ∈ l, c = .checksum v) := by
  cases c with
  | initTables => simp only [checkImplemented, Except.ok.injEq] at h; exact ⟨h.symm, .inl rfl⟩
  | checksum v =>
    simp only [checkImplemented] at h
    split at h
    · simp only [Except.ok.injEq] at h; exact ⟨h.symm, .inr ⟨v, ‹_›, rfl⟩⟩
    · contradiction

theorem decodeCommand_ok {l : List Variant} {w : Word} {c : Command} (h : decodeCommand l w = .ok c) :
    decodeWord w = .ok c ∧ (c = .initTables ∨ ∃ v ∈ l, c = .checksum v) := by
  unfold decodeCommand at h
  split at h
  next c0 hc0 =>
    obtain ⟨rfl, hw⟩ := checkImplemented_ok h
    exact ⟨hc0, hw⟩
  · contradiction

/-- A command row is the request of its command. -/
theorem exec_command (c : Command) (s : State) : exec c.toInstr s = requestOf c s := by
  cases c with
  | initTables => rfl
  | checksum v => cases v <;> rfl

/-- `wr CMD` is the request of whatever its word decodes to (R192). -/
theorem exec_wrCmd (w : Word) (s : State) :
    exec (.wrCmd w) s = commandRequest (decodeCommand s.cfg.implemented w) s := rfl

@[simp] theorem decodeWord_encodeWord (c : Command) : decodeWord (encodeWord c) = .ok c := by
  cases c with
  | initTables => rfl
  | checksum v => cases v <;> rfl

/-- The only word that decodes to a command is that command's. -/
theorem decodeWord_ok {w : Word} {c : Command} (h : decodeWord w = .ok c) : w = encodeWord c := by
  unfold decodeWord at h
  split at h
  next hz =>
    have := encodeOpcode_of_decodeOpcode _ _ h
    rw [encodeWord, ← this]
    apply BitVec.eq_of_toNat_eq
    have h2 := congrArg BitVec.toNat hz
    simp [Nat.shiftRight_eq_div_pow] at h2 ⊢
    omega
  · contradiction

/-! ## Instructions -/

/-- What a host transaction does to the state: the eight effects an instruction can have. -/
inductive HostEffect (i : Instr) (s : State) : State → Prop where
  | read (idx : Nat) : HostEffect i s { s with reads := s.reads ++ [registerValue idx s] }
  | ignored : HostEffect i s s
  | dropped (busy : s.busy = true) : HostEffect i s (raiseError .busy s)
  | setSrc (v : Word) (idle : s.busy = false) (h : i = .wrSrc v) : HostEffect i s (s.setSrc v)
  | setLen (v : Word) (idle : s.busy = false) (h : i = .wrLen v) : HostEffect i s (s.setLen v)
  | setCrc (v : Word) (idle : s.busy = false) (h : i = .wrCrc v) : HostEffect i s (s.setCrc v)
  | rejected (e : ErrCode) (idle : s.busy = false) (h : e = .illegal ∨ e = .range) : HostEffect i s (reject e s)
  | accepted (c : Command) (idle : s.busy = false)
      (h : i = c.toInstr ∨ ∃ w, i = .wrCmd w ∧ decodeWord w = .ok c)
      (ok : c = .initTables ∨ ∃ v ∈ s.cfg.implemented, c = .checksum v ∧ rangeOk s = true) :
      HostEffect i s (accept c s)

theorem commandRequest_effect (d : Except DecodeError Command) (i : Instr) (s : State)
    (hd : ∀ c, d = .ok c → (i = c.toInstr ∨ ∃ w, i = .wrCmd w ∧ decodeWord w = .ok c) ∧
      (c = .initTables ∨ ∃ v ∈ s.cfg.implemented, c = .checksum v)) :
    ∃ t, commandRequest d s = .next t ∧ HostEffect i s t := by
  rcases commandRequest_cases d s with ⟨hb, h⟩ | ⟨hb, ⟨_, h⟩ | ⟨hd', h⟩ | ⟨v, hd', ⟨hr, h⟩ | ⟨_, h⟩⟩⟩
  · exact ⟨_, h, .dropped hb⟩
  · exact ⟨_, h, .rejected _ hb (.inl rfl)⟩
  · exact ⟨_, h, .accepted _ hb (hd _ hd').1 (.inl rfl)⟩
  · refine ⟨_, h, .accepted _ hb (hd _ hd').1 (.inr ?_)⟩
    rcases (hd _ hd').2 with h0 | ⟨v', hv, h0⟩
    · cases h0
    · cases h0; exact ⟨v, hv, rfl, hr⟩
  · exact ⟨_, h, .rejected _ hb (.inr rfl)⟩

theorem requestOf_effect (c : Command) (s : State) : ∃ t, requestOf c s = .next t ∧ HostEffect c.toInstr s t := by
  refine commandRequest_effect _ _ s ?_
  intro c' h
  obtain ⟨rfl, h⟩ := checkImplemented_ok h
  exact ⟨.inl rfl, h⟩

theorem execWrCmd_effect (w : Word) (s : State) : ∃ t, execWrCmd w s = .next t ∧ HostEffect (.wrCmd w) s t := by
  refine commandRequest_effect _ _ s ?_
  intro c h
  obtain ⟨h1, h2⟩ := decodeCommand_ok h
  exact ⟨.inr ⟨w, rfl, h1⟩, h2⟩

theorem registerWrite_effect (i : Instr) (w : State → State) (s : State)
    (h : s.busy = false → HostEffect i s (w s)) : ∃ t, registerWrite w s = .next t ∧ HostEffect i s t := by
  cases hb : s.busy
  · exact ⟨_, registerWrite_idle w hb, h hb⟩
  · exact ⟨_, registerWrite_busy w hb, .dropped hb⟩

/-- Every instruction, in every state, gives a next state by one of the eight effects. -/
theorem exec_effect (i : Instr) (s : State) : ∃ t, exec i s = .next t ∧ HostEffect i s t := by
  cases i
  case initTables => exact requestOf_effect .initTables s
  case crc32Bitwise => exact requestOf_effect (.checksum .bitwise) s
  case crc32Halfbyte => exact requestOf_effect (.checksum .halfbyte) s
  case crc32Byte => exact requestOf_effect (.checksum .byte) s
  case crc32Slicing4 => exact requestOf_effect (.checksum .slicing4) s
  case crc32Slicing2x4 => exact requestOf_effect (.checksum .slicing2x4) s
  case crc32Slicing4x4 => exact requestOf_effect (.checksum .slicing4x4) s
  case crc32Slicing8 => exact requestOf_effect (.checksum .slicing8) s
  case crc32Slicing16 => exact requestOf_effect (.checksum .slicing16) s
  case crc32Slicing2x16 => exact requestOf_effect (.checksum .slicing2x16) s
  case crc32Slicing2x8 => exact requestOf_effect (.checksum .slicing2x8) s
  case crc32Slicing4x8 => exact requestOf_effect (.checksum .slicing4x8) s
  case crc32cSlicing4 => exact requestOf_effect (.checksum .cSlicing4) s
  case crc32cSlicing2x4 => exact requestOf_effect (.checksum .cSlicing2x4) s
  case crc32cSlicing4x4 => exact requestOf_effect (.checksum .cSlicing4x4) s
  case crc32cSlicing8 => exact requestOf_effect (.checksum .cSlicing8) s
  case crc32cSlicing16 => exact requestOf_effect (.checksum .cSlicing16) s
  case crc32cSlicing32 => exact requestOf_effect (.checksum .cSlicing32) s
  case wrCmd w => exact execWrCmd_effect w s
  case wrSrc v => exact registerWrite_effect _ (fun t => t.setSrc v) s fun hb => .setSrc v hb rfl
  case wrLen v => exact registerWrite_effect _ (fun t => t.setLen v) s fun hb => .setLen v hb rfl
  case wrCrc v => exact registerWrite_effect _ (fun t => t.setCrc v) s fun hb => .setCrc v hb rfl
  all_goals first
    | exact ⟨_, rfl, .read _⟩
    | exact ⟨_, rfl, .ignored⟩

/-- The inversion lemma of an instruction. -/
theorem exec_cases {i : Instr} {s t : State} (h : exec i s = .next t) : HostEffect i s t := by
  obtain ⟨t', h', e⟩ := exec_effect i s
  rw [h] at h'
  cases h'
  exact e

/-! ## Engine units -/

/-- What one engine step does to the state. -/
inductive EngineEffect (s : State) : State → Prop where
  /-- No unit, or a byte read that is not answered. -/
  | still : EngineEffect s s
  | tableBuild (h : s.phase = .init) : EngineEffect s (flagsOfFinish { s with tz := builtTables, tblValid := true })
  | finished (v : Variant) (h : s.phase = .run) (op : decodeOpcode s.opl = .ok (.checksum v)) (zero : s.rem = 0) :
      EngineEffect s (finish (variantFamily v) s)
  | aborted (h : s.phase = .run) (nonzero : s.rem ≠ 0) : EngineEffect s (abort s)
  | consumed (n : Nat) (a : Word) (d : Nat) (h : s.phase = .run) (pos : 1 ≤ n) (le : n ≤ s.rem.toNat) :
      EngineEffect s (consume n { s with acc := a, draws := d })

/-- Everything a unit over `n` bytes can do. -/
theorem unitOver_cases (n : Nat) (update : List Byte → State → State) (s : State) :
    (∃ c, memRead s s.ptr.toNat n = .data c ∧ unitOver n update s = .next (consume n (update c s))) ∨
    (memRead s s.ptr.toNat n = .busError ∧ unitOver n update s = .next (abort s)) ∨
    (memRead s s.ptr.toNat n = .noAnswer ∧ unitOver n update s = .next s) := by
  unfold unitOver
  cases memRead s s.ptr.toNat n <;> simp

/-- An update that touches nothing but the accumulator and the number of draws. -/
def TouchesAccOnly (update : List Byte → State → State) : Prop :=
  ∀ c s, ∃ a d, update c s = { s with acc := a, draws := d }

theorem updateAcc_touches (f : List Byte → Word → Word) : TouchesAccOnly fun c => updateAcc (f c) :=
  fun _ s => ⟨_, s.draws, rfl⟩

theorem updateAccFromTz_touches (f : List Byte → Table → Word → Word) : TouchesAccOnly fun c => updateAccFromTz (f c) := by
  intro c s
  cases h : s.tblValid
  · exact ⟨Config.freeWord s.draws, s.draws + 1, by simp [updateAccFromTz, h]⟩
  · exact ⟨f c (tzRead s.tz) s.acc, s.draws, by simp [updateAccFromTz, h]⟩

theorem unitOver_effect {n : Nat} {update : List Byte → State → State} {s : State} (hp : s.phase = .run)
    (h0 : s.rem ≠ 0) (hn : 1 ≤ n) (hle : n ≤ s.rem.toNat) (hu : TouchesAccOnly update) :
    ∃ t, unitOver n update s = .next t ∧ EngineEffect s t := by
  rcases unitOver_cases n update s with ⟨c, _, h⟩ | ⟨_, h⟩ | ⟨_, h⟩
  · obtain ⟨a, d, hc⟩ := hu c s
    rw [hc] at h
    exact ⟨_, h, .consumed n a d hp hn hle⟩
  · exact ⟨_, h, .aborted hp h0⟩
  · exact ⟨_, h, .still⟩

theorem rem_pos {w : Word} (h : w ≠ 0) : 1 ≤ w.toNat := by
  rcases Nat.eq_zero_or_pos w.toNat with h0 | h0
  · exact absurd (BitVec.eq_of_toNat_eq (by simpa using h0)) h
  · exact h0

theorem zlibSlicingUnit_effect {v : Variant} (depth unroll : Nat) {s : State} (hp : s.phase = .run)
    (ho : decodeOpcode s.opl = .ok (.checksum v)) (hv : variantFamily v = .zlib) (h1 : 1 ≤ unroll * depth) :
    ∃ t, zlibSlicingUnit depth unroll s = .next t ∧ EngineEffect s t := by
  unfold zlibSlicingUnit
  split
  next h => exact ⟨_, rfl, hv ▸ .finished v hp ho h⟩
  next h =>
    split
    next hle => exact unitOver_effect hp h h1 hle (updateAccFromTz_touches fun c t acc => _)
    next => exact unitOver_effect hp h (Nat.le_refl 1) (rem_pos h) (updateAccFromTz_touches fun c t acc => _)

theorem castagnoliUnit_effect {v : Variant} (size : Nat) (step : Word → List Byte → Word) {s : State}
    (hp : s.phase = .run) (ho : decodeOpcode s.opl = .ok (.checksum v)) (hv : variantFamily v = .castagnoli)
    (h1 : 1 ≤ size) : ∃ t, castagnoliUnit size step s = .next t ∧ EngineEffect s t := by
  have hbyte (h : s.rem ≠ 0) : ∃ t, castagnoliByteUnit s = .next t ∧ EngineEffect s t :=
    unitOver_effect hp h (Nat.le_refl 1) (rem_pos h) (updateAcc_touches fun c acc => _)
  unfold castagnoliUnit
  split
  next h => exact ⟨_, rfl, hv ▸ .finished v hp ho h⟩
  next h =>
    split
    · exact hbyte h
    · split
      next hle => exact unitOver_effect hp h h1 hle (updateAcc_touches fun c acc => _)
      next => exact hbyte h

theorem checksumUnit_effect (v : Variant) {s : State} (hp : s.phase = .run)
    (ho : decodeOpcode s.opl = .ok (.checksum v)) : ∃ t, checksumUnit v s = .next t ∧ EngineEffect s t := by
  cases v
  case bitwise =>
    simp only [checksumUnit, unitCrc32Bitwise]
    split
    next h => exact ⟨_, rfl, .finished .bitwise hp ho h⟩
    next h => exact unitOver_effect hp h (Nat.le_refl 1) (rem_pos h) (updateAcc_touches fun c acc => _)
  case halfbyte =>
    simp only [checksumUnit, unitCrc32Halfbyte]
    split
    next h => exact ⟨_, rfl, .finished .halfbyte hp ho h⟩
    next h => exact unitOver_effect hp h (Nat.le_refl 1) (rem_pos h) (updateAccFromTz_touches fun c t acc => _)
  case byte =>
    simp only [checksumUnit, unitCrc32Byte]
    split
    next h => exact ⟨_, rfl, .finished .byte hp ho h⟩
    next h => exact unitOver_effect hp h (Nat.le_refl 1) (rem_pos h) (updateAccFromTz_touches fun c t acc => _)
  all_goals first
    | exact zlibSlicingUnit_effect _ _ hp ho rfl (by decide)
    | exact castagnoliUnit_effect _ _ hp ho rfl (by decide)

/-- The inversion lemma of an engine step. -/
theorem engineUnit_cases {s t : State} (h : engineUnit s = .next t) : EngineEffect s t := by
  unfold engineUnit at h
  split at h
  next => cases h; exact .still
  next hp => cases h; exact .tableBuild hp
  next hp =>
    split at h
    next v ho =>
      obtain ⟨t', h', e⟩ := checksumUnit_effect v hp ho
      rw [h] at h'; cases h'; exact e
    · contradiction
    · contradiction

/-- A running checksum always has a unit, and it is no fault. -/
theorem engineUnit_running {v : Variant} {s : State} (hp : s.phase = .run)
    (ho : decodeOpcode s.opl = .ok (.checksum v)) : engineUnit s = checksumUnit v s := by
  simp [engineUnit, hp, ho]

/-! ## Steps -/

/-- What one step does: it takes the head of the schedule and performs it. -/
inductive StepEffect (s : State) : State → Prop where
  | host (x : Transfer) (rest : List Input) (t : State) (h : s.inputs = .transfer x :: rest)
      (e : HostEffect (instrOf x) { s with inputs := rest } t) : StepEffect s t
  | engineTurn (rest : List Input) (t : State) (h : s.inputs = .engine :: rest)
      (e : EngineEffect { s with inputs := rest } t) : StepEffect s t
  | engineAlone (t : State) (h : s.inputs = []) (e : EngineEffect s t) : StepEffect s t
  | reset (rest : List Input) (h : s.inputs = .reset :: rest) : StepEffect s (resetEvent { s with inputs := rest })
  | memWrite (a : Nat) (b : Byte) (rest : List Input) (h : s.inputs = .memWrite a b :: rest)
      (inSpace : a < s.cfg.spaceSize) (stable : (s.busy && inBuffer s a) = false) :
      StepEffect s { s with inputs := rest, mem := s.mem.write a b }

/-- The inversion lemma of a step. -/
theorem step_cases {s t : State} (h : step s = .next t) : StepEffect s t := by
  unfold step at h
  split at h
  next hi => exact .engineAlone t hi (engineUnit_cases h)
  next i rest hi =>
    cases i with
    | transfer x => exact .host x rest t hi (exec_cases h)
    | engine => exact .engineTurn rest t hi (engineUnit_cases h)
    | reset => cases h; exact .reset rest hi
    | memWrite a b =>
      simp only [runInput, hostMemWrite] at h
      split at h
      · contradiction
      next hs =>
        split at h
        · contradiction
        next hb =>
          cases h
          exact .memWrite a b rest hi (by simpa using hs) (by simpa [inBuffer, State.srcValue] using hb)

end Sys2Proof.Machine
end

