-- ==== Sys2Proof/Laws/PerInstr.lean ====
section
/-!
SUPPORT. Laws stated per instruction. Family `RoundTrip`: decoding the encoding of an instruction gives it back
(spec/30_encoding.md R72, R80, R81).
-/

namespace Sys2Proof.Laws.RoundTrip

/-- The decoder reads the instruction back from the transfer the encoder writes for it. -/
def Statement (i : Instr) : Prop := decode (encode i) = .ok i

theorem initTables : Statement .initTables := rfl
theorem crc32Bitwise : Statement .crc32Bitwise := rfl
theorem crc32Halfbyte : Statement .crc32Halfbyte := rfl
theorem crc32Byte : Statement .crc32Byte := rfl
theorem crc32Slicing4 : Statement .crc32Slicing4 := rfl
theorem crc32Slicing2x4 : Statement .crc32Slicing2x4 := rfl
theorem crc32Slicing4x4 : Statement .crc32Slicing4x4 := rfl
theorem crc32Slicing8 : Statement .crc32Slicing8 := rfl
theorem crc32Slicing16 : Statement .crc32Slicing16 := rfl
theorem crc32Slicing2x16 : Statement .crc32Slicing2x16 := rfl
theorem crc32Slicing2x8 : Statement .crc32Slicing2x8 := rfl
theorem crc32Slicing4x8 : Statement .crc32Slicing4x8 := rfl
theorem crc32cSlicing4 : Statement .crc32cSlicing4 := rfl
theorem crc32cSlicing2x4 : Statement .crc32cSlicing2x4 := rfl
theorem crc32cSlicing4x4 : Statement .crc32cSlicing4x4 := rfl
theorem crc32cSlicing8 : Statement .crc32cSlicing8 := rfl
theorem crc32cSlicing16 : Statement .crc32cSlicing16 := rfl
theorem crc32cSlicing32 : Statement .crc32cSlicing32 := rfl
theorem rdCmd : Statement .rdCmd := rfl
theorem rdStatus : Statement .rdStatus := rfl
theorem rdSrc : Statement .rdSrc := rfl
theorem rdLen : Statement .rdLen := rfl
theorem rdCrc : Statement .rdCrc := rfl
theorem wrCmd (v : Word) : Statement (.wrCmd v) := rfl
theorem wrStatus (v : Word) : Statement (.wrStatus v) := rfl
theorem wrSrc (v : Word) : Statement (.wrSrc v) := rfl
theorem wrLen (v : Word) : Statement (.wrLen v) := rfl
theorem wrCrc (v : Word) : Statement (.wrCrc v) := rfl
theorem rdRsvd5 : Statement .rdRsvd5 := rfl
theorem rdRsvd6 : Statement .rdRsvd6 := rfl
theorem rdRsvd7 : Statement .rdRsvd7 := rfl
theorem rdRsvd8 : Statement .rdRsvd8 := rfl
theorem rdRsvd9 : Statement .rdRsvd9 := rfl
theorem rdRsvd10 : Statement .rdRsvd10 := rfl
theorem rdRsvd11 : Statement .rdRsvd11 := rfl
theorem rdRsvd12 : Statement .rdRsvd12 := rfl
theorem rdRsvd13 : Statement .rdRsvd13 := rfl
theorem rdRsvd14 : Statement .rdRsvd14 := rfl
theorem rdRsvd15 : Statement .rdRsvd15 := rfl
theorem rdRsvd16 : Statement .rdRsvd16 := rfl
theorem rdRsvd17 : Statement .rdRsvd17 := rfl
theorem rdRsvd18 : Statement .rdRsvd18 := rfl
theorem rdRsvd19 : Statement .rdRsvd19 := rfl
theorem rdRsvd20 : Statement .rdRsvd20 := rfl
theorem rdRsvd21 : Statement .rdRsvd21 := rfl
theorem rdRsvd22 : Statement .rdRsvd22 := rfl
theorem rdRsvd23 : Statement .rdRsvd23 := rfl
theorem rdRsvd24 : Statement .rdRsvd24 := rfl
theorem rdRsvd25 : Statement .rdRsvd25 := rfl
theorem rdRsvd26 : Statement .rdRsvd26 := rfl
theorem rdRsvd27 : Statement .rdRsvd27 := rfl
theorem rdRsvd28 : Statement .rdRsvd28 := rfl
theorem rdRsvd29 : Statement .rdRsvd29 := rfl
theorem rdRsvd30 : Statement .rdRsvd30 := rfl
theorem rdRsvd31 : Statement .rdRsvd31 := rfl
theorem rdRsvd32 : Statement .rdRsvd32 := rfl
theorem rdRsvd33 : Statement .rdRsvd33 := rfl
theorem rdRsvd34 : Statement .rdRsvd34 := rfl
theorem rdRsvd35 : Statement .rdRsvd35 := rfl
theorem rdRsvd36 : Statement .rdRsvd36 := rfl
theorem rdRsvd37 : Statement .rdRsvd37 := rfl
theorem rdRsvd38 : Statement .rdRsvd38 := rfl
theorem rdRsvd39 : Statement .rdRsvd39 := rfl
theorem rdRsvd40 : Statement .rdRsvd40 := rfl
theorem rdRsvd41 : Statement .rdRsvd41 := rfl
theorem rdRsvd42 : Statement .rdRsvd42 := rfl
theorem rdRsvd43 : Statement .rdRsvd43 := rfl
theorem rdRsvd44 : Statement .rdRsvd44 := rfl
theorem rdRsvd45 : Statement .rdRsvd45 := rfl
theorem rdRsvd46 : Statement .rdRsvd46 := rfl
theorem rdRsvd47 : Statement .rdRsvd47 := rfl
theorem rdRsvd48 : Statement .rdRsvd48 := rfl
theorem rdRsvd49 : Statement .rdRsvd49 := rfl
theorem rdRsvd50 : Statement .rdRsvd50 := rfl
theorem rdRsvd51 : Statement .rdRsvd51 := rfl
theorem rdRsvd52 : Statement .rdRsvd52 := rfl
theorem rdRsvd53 : Statement .rdRsvd53 := rfl
theorem rdRsvd54 : Statement .rdRsvd54 := rfl
theorem rdRsvd55 : Statement .rdRsvd55 := rfl
theorem rdRsvd56 : Statement .rdRsvd56 := rfl
theorem rdRsvd57 : Statement .rdRsvd57 := rfl
theorem rdRsvd58 : Statement .rdRsvd58 := rfl
theorem rdRsvd59 : Statement .rdRsvd59 := rfl
theorem rdRsvd60 : Statement .rdRsvd60 := rfl
theorem rdRsvd61 : Statement .rdRsvd61 := rfl
theorem rdRsvd62 : Statement .rdRsvd62 := rfl
theorem rdRsvd63 : Statement .rdRsvd63 := rfl
theorem wrRsvd5 (v : Word) : Statement (.wrRsvd5 v) := rfl
theorem wrRsvd6 (v : Word) : Statement (.wrRsvd6 v) := rfl
theorem wrRsvd7 (v : Word) : Statement (.wrRsvd7 v) := rfl
theorem wrRsvd8 (v : Word) : Statement (.wrRsvd8 v) := rfl
theorem wrRsvd9 (v : Word) : Statement (.wrRsvd9 v) := rfl
theorem wrRsvd10 (v : Word) : Statement (.wrRsvd10 v) := rfl
theorem wrRsvd11 (v : Word) : Statement (.wrRsvd11 v) := rfl
theorem wrRsvd12 (v : Word) : Statement (.wrRsvd12 v) := rfl
theorem wrRsvd13 (v : Word) : Statement (.wrRsvd13 v) := rfl
theorem wrRsvd14 (v : Word) : Statement (.wrRsvd14 v) := rfl
theorem wrRsvd15 (v : Word) : Statement (.wrRsvd15 v) := rfl
theorem wrRsvd16 (v : Word) : Statement (.wrRsvd16 v) := rfl
theorem wrRsvd17 (v : Word) : Statement (.wrRsvd17 v) := rfl
theorem wrRsvd18 (v : Word) : Statement (.wrRsvd18 v) := rfl
theorem wrRsvd19 (v : Word) : Statement (.wrRsvd19 v) := rfl
theorem wrRsvd20 (v : Word) : Statement (.wrRsvd20 v) := rfl
theorem wrRsvd21 (v : Word) : Statement (.wrRsvd21 v) := rfl
theorem wrRsvd22 (v : Word) : Statement (.wrRsvd22 v) := rfl
theorem wrRsvd23 (v : Word) : Statement (.wrRsvd23 v) := rfl
theorem wrRsvd24 (v : Word) : Statement (.wrRsvd24 v) := rfl
theorem wrRsvd25 (v : Word) : Statement (.wrRsvd25 v) := rfl
theorem wrRsvd26 (v : Word) : Statement (.wrRsvd26 v) := rfl
theorem wrRsvd27 (v : Word) : Statement (.wrRsvd27 v) := rfl
theorem wrRsvd28 (v : Word) : Statement (.wrRsvd28 v) := rfl
theorem wrRsvd29 (v : Word) : Statement (.wrRsvd29 v) := rfl
theorem wrRsvd30 (v : Word) : Statement (.wrRsvd30 v) := rfl
theorem wrRsvd31 (v : Word) : Statement (.wrRsvd31 v) := rfl
theorem wrRsvd32 (v : Word) : Statement (.wrRsvd32 v) := rfl
theorem wrRsvd33 (v : Word) : Statement (.wrRsvd33 v) := rfl
theorem wrRsvd34 (v : Word) : Statement (.wrRsvd34 v) := rfl
theorem wrRsvd35 (v : Word) : Statement (.wrRsvd35 v) := rfl
theorem wrRsvd36 (v : Word) : Statement (.wrRsvd36 v) := rfl
theorem wrRsvd37 (v : Word) : Statement (.wrRsvd37 v) := rfl
theorem wrRsvd38 (v : Word) : Statement (.wrRsvd38 v) := rfl
theorem wrRsvd39 (v : Word) : Statement (.wrRsvd39 v) := rfl
theorem wrRsvd40 (v : Word) : Statement (.wrRsvd40 v) := rfl
theorem wrRsvd41 (v : Word) : Statement (.wrRsvd41 v) := rfl
theorem wrRsvd42 (v : Word) : Statement (.wrRsvd42 v) := rfl
theorem wrRsvd43 (v : Word) : Statement (.wrRsvd43 v) := rfl
theorem wrRsvd44 (v : Word) : Statement (.wrRsvd44 v) := rfl
theorem wrRsvd45 (v : Word) : Statement (.wrRsvd45 v) := rfl
theorem wrRsvd46 (v : Word) : Statement (.wrRsvd46 v) := rfl
theorem wrRsvd47 (v : Word) : Statement (.wrRsvd47 v) := rfl
theorem wrRsvd48 (v : Word) : Statement (.wrRsvd48 v) := rfl
theorem wrRsvd49 (v : Word) : Statement (.wrRsvd49 v) := rfl
theorem wrRsvd50 (v : Word) : Statement (.wrRsvd50 v) := rfl
theorem wrRsvd51 (v : Word) : Statement (.wrRsvd51 v) := rfl
theorem wrRsvd52 (v : Word) : Statement (.wrRsvd52 v) := rfl
theorem wrRsvd53 (v : Word) : Statement (.wrRsvd53 v) := rfl
theorem wrRsvd54 (v : Word) : Statement (.wrRsvd54 v) := rfl
theorem wrRsvd55 (v : Word) : Statement (.wrRsvd55 v) := rfl
theorem wrRsvd56 (v : Word) : Statement (.wrRsvd56 v) := rfl
theorem wrRsvd57 (v : Word) : Statement (.wrRsvd57 v) := rfl
theorem wrRsvd58 (v : Word) : Statement (.wrRsvd58 v) := rfl
theorem wrRsvd59 (v : Word) : Statement (.wrRsvd59 v) := rfl
theorem wrRsvd60 (v : Word) : Statement (.wrRsvd60 v) := rfl
theorem wrRsvd61 (v : Word) : Statement (.wrRsvd61 v) := rfl
theorem wrRsvd62 (v : Word) : Statement (.wrRsvd62 v) := rfl
theorem wrRsvd63 (v : Word) : Statement (.wrRsvd63 v) := rfl

end Sys2Proof.Laws.RoundTrip
end

