-- ==== Sys2Proof/Tests/Slice0.lean ====
section
/-!
SUPPORT. The model's own tests. First the well-formedness checks and the decoder, by words written out from the spec's
encodings; then one step or one unit of each command and transaction, with the expected values of spec/95_test_vectors.md;
then, for every statement with hypotheses, a witness that meets them all. `PAT` is that file's memory pattern, byte a at address a.
-/

namespace Sys2Proof.Tests

open Sys2Proof.Machine

set_option maxRecDepth 20000

/-! ## Helpers -/

/-- A field of the next state, or nothing where the step stops. -/
def after {α : Type} (f : State → α) : Outcome → Option α
  | .next t => some (f t)
  | .fault _ => none
  | .refused _ => none

/-- The full `STATUS` word and the fault record after a step. -/
def statusAfter (o : Outcome) : Option (Word × List ErrCode) := after (fun t => (statusWord t, t.faults)) o

/-- The reset state with the `n` bytes of `PAT` from address `a` in the host data space, and `SRC`, `LEN` naming them. -/
def patState (a n : Nat) (crc : Word) : State :=
  { State.reset with
    mem := (List.range n).map fun k => (a + k, BitVec.ofNat 8 (a + k))
    src := BitVec.ofNat 32 a, len := BitVec.ofNat 32 n, crc := crc }

/-- The tables built and valid. -/
def built (s : State) : State := { s with tz := builtTables, tblValid := true }

/-- `ACC` after the first unit of a command over `n` bytes of `PAT` from address 0, carry-in 0. -/
def firstUnitAcc (v : Variant) (n : Nat) : Option Word :=
  after (fun t => t.acc) (engineUnit (accepted v (built (patState 0 n 0))))

/-- `ACC`, `PTR` and `REM` after one unit. -/
def unitAfter (s : State) : Option (Word × Nat × Nat) := after (fun t => (t.acc, t.ptr.toNat, t.rem.toNat)) (engineUnit s)

/-! ## Well-formedness -/

theorem test_wf_default_config : Config.default.wf = true := by decide

theorem test_wf_refuses_no_address_bits : ({ Config.default with addrWidth := 0 } : Config).wf = false := by decide

theorem test_wf_refuses_33_address_bits : ({ Config.default with addrWidth := 33 } : Config).wf = false := by decide

theorem test_wf_refuses_variant_listed_twice :
    ({ Config.default with implemented := [.byte, .slicing4, .byte] } : Config).wf = false := by decide

theorem test_wf_refuses_unimplemented_command :
    Instr.wf { Config.default with implemented := [.byte] } .crc32Slicing4 = false ∧
    Instr.wf { Config.default with implemented := [.byte] } .crc32Byte = true ∧
    Instr.wf { Config.default with implemented := [] } .initTables = true := by decide

/-! ## Decoding: every row of the opcode table, by its written-out word -/

theorem test_decode_zlib_words :
    ([
      0b00000000000000000000000000000001, 0b00000000000000000000000000000010, 0b00000000000000000000000000000011,
      0b00000000000000000000000000000100, 0b00000000000000000000000000000101, 0b00000000000000000000000000000110,
      0b00000000000000000000000000000111, 0b00000000000000000000000000001000, 0b00000000000000000000000000001001,
      0b00000000000000000000000000001010, 0b00000000000000000000000000001011, 0b00000000000000000000000000001100] : List Nat).map (decodeTableWord 32) =
    ([
      .initTables, .crc32Bitwise, .crc32Halfbyte, .crc32Byte, .crc32Slicing4, .crc32Slicing2x4, .crc32Slicing4x4,
      .crc32Slicing8, .crc32Slicing16, .crc32Slicing2x16, .crc32Slicing2x8, .crc32Slicing4x8] : List Instr).map some := by decide

theorem test_decode_castagnoli_words :
    ([
      0b00000000000000000000000000010001, 0b00000000000000000000000000010010, 0b00000000000000000000000000010011,
      0b00000000000000000000000000010100, 0b00000000000000000000000000010101, 0b00000000000000000000000000010110] : List Nat).map (decodeTableWord 32) =
    ([
      .crc32cSlicing4, .crc32cSlicing2x4, .crc32cSlicing4x4, .crc32cSlicing8, .crc32cSlicing16, .crc32cSlicing32] : List Instr).map some := by decide

theorem test_decode_read_descriptors_0 :
    ([
      0b0000000, 0b0000001, 0b0000010, 0b0000011, 0b0000100, 0b0000101, 0b0000110, 0b0000111, 0b0001000, 0b0001001,
      0b0001010, 0b0001011, 0b0001100, 0b0001101, 0b0001110, 0b0001111] : List Nat).map (decodeTableWord 8) =
    ([
      .rdCmd, .rdStatus, .rdSrc, .rdLen, .rdCrc, .rdRsvd5, .rdRsvd6, .rdRsvd7, .rdRsvd8, .rdRsvd9, .rdRsvd10,
      .rdRsvd11, .rdRsvd12, .rdRsvd13, .rdRsvd14, .rdRsvd15] : List Instr).map some := by decide

theorem test_decode_read_descriptors_16 :
    ([
      0b0010000, 0b0010001, 0b0010010, 0b0010011, 0b0010100, 0b0010101, 0b0010110, 0b0010111, 0b0011000, 0b0011001,
      0b0011010, 0b0011011, 0b0011100, 0b0011101, 0b0011110, 0b0011111] : List Nat).map (decodeTableWord 8) =
    ([
      .rdRsvd16, .rdRsvd17, .rdRsvd18, .rdRsvd19, .rdRsvd20, .rdRsvd21, .rdRsvd22, .rdRsvd23, .rdRsvd24, .rdRsvd25,
      .rdRsvd26, .rdRsvd27, .rdRsvd28, .rdRsvd29, .rdRsvd30, .rdRsvd31] : List Instr).map some := by decide

theorem test_decode_read_descriptors_32 :
    ([
      0b0100000, 0b0100001, 0b0100010, 0b0100011, 0b0100100, 0b0100101, 0b0100110, 0b0100111, 0b0101000, 0b0101001,
      0b0101010, 0b0101011, 0b0101100, 0b0101101, 0b0101110, 0b0101111] : List Nat).map (decodeTableWord 8) =
    ([
      .rdRsvd32, .rdRsvd33, .rdRsvd34, .rdRsvd35, .rdRsvd36, .rdRsvd37, .rdRsvd38, .rdRsvd39, .rdRsvd40, .rdRsvd41,
      .rdRsvd42, .rdRsvd43, .rdRsvd44, .rdRsvd45, .rdRsvd46, .rdRsvd47] : List Instr).map some := by decide

theorem test_decode_read_descriptors_48 :
    ([
      0b0110000, 0b0110001, 0b0110010, 0b0110011, 0b0110100, 0b0110101, 0b0110110, 0b0110111, 0b0111000, 0b0111001,
      0b0111010, 0b0111011, 0b0111100, 0b0111101, 0b0111110, 0b0111111] : List Nat).map (decodeTableWord 8) =
    ([
      .rdRsvd48, .rdRsvd49, .rdRsvd50, .rdRsvd51, .rdRsvd52, .rdRsvd53, .rdRsvd54, .rdRsvd55, .rdRsvd56, .rdRsvd57,
      .rdRsvd58, .rdRsvd59, .rdRsvd60, .rdRsvd61, .rdRsvd62, .rdRsvd63] : List Instr).map some := by decide

theorem test_decode_write_descriptors_0 :
    ([
      0b1000000, 0b1000001, 0b1000010, 0b1000011, 0b1000100, 0b1000101, 0b1000110, 0b1000111, 0b1001000, 0b1001001,
      0b1001010, 0b1001011, 0b1001100, 0b1001101, 0b1001110, 0b1001111] : List Nat).map (decodeTableWord 8) =
    ([
      .wrCmd 0, .wrStatus 0, .wrSrc 0, .wrLen 0, .wrCrc 0, .wrRsvd5 0, .wrRsvd6 0, .wrRsvd7 0, .wrRsvd8 0, .wrRsvd9 0,
      .wrRsvd10 0, .wrRsvd11 0, .wrRsvd12 0, .wrRsvd13 0, .wrRsvd14 0, .wrRsvd15 0] : List Instr).map some := by decide

theorem test_decode_write_descriptors_16 :
    ([
      0b1010000, 0b1010001, 0b1010010, 0b1010011, 0b1010100, 0b1010101, 0b1010110, 0b1010111, 0b1011000, 0b1011001,
      0b1011010, 0b1011011, 0b1011100, 0b1011101, 0b1011110, 0b1011111] : List Nat).map (decodeTableWord 8) =
    ([
      .wrRsvd16 0, .wrRsvd17 0, .wrRsvd18 0, .wrRsvd19 0, .wrRsvd20 0, .wrRsvd21 0, .wrRsvd22 0, .wrRsvd23 0,
      .wrRsvd24 0, .wrRsvd25 0, .wrRsvd26 0, .wrRsvd27 0, .wrRsvd28 0, .wrRsvd29 0, .wrRsvd30 0, .wrRsvd31 0] : List Instr).map some := by decide

theorem test_decode_write_descriptors_32 :
    ([
      0b1100000, 0b1100001, 0b1100010, 0b1100011, 0b1100100, 0b1100101, 0b1100110, 0b1100111, 0b1101000, 0b1101001,
      0b1101010, 0b1101011, 0b1101100, 0b1101101, 0b1101110, 0b1101111] : List Nat).map (decodeTableWord 8) =
    ([
      .wrRsvd32 0, .wrRsvd33 0, .wrRsvd34 0, .wrRsvd35 0, .wrRsvd36 0, .wrRsvd37 0, .wrRsvd38 0, .wrRsvd39 0,
      .wrRsvd40 0, .wrRsvd41 0, .wrRsvd42 0, .wrRsvd43 0, .wrRsvd44 0, .wrRsvd45 0, .wrRsvd46 0, .wrRsvd47 0] : List Instr).map some := by decide

theorem test_decode_write_descriptors_48 :
    ([
      0b1110000, 0b1110001, 0b1110010, 0b1110011, 0b1110100, 0b1110101, 0b1110110, 0b1110111, 0b1111000, 0b1111001,
      0b1111010, 0b1111011, 0b1111100, 0b1111101, 0b1111110, 0b1111111] : List Nat).map (decodeTableWord 8) =
    ([
      .wrRsvd48 0, .wrRsvd49 0, .wrRsvd50 0, .wrRsvd51 0, .wrRsvd52 0, .wrRsvd53 0, .wrRsvd54 0, .wrRsvd55 0,
      .wrRsvd56 0, .wrRsvd57 0, .wrRsvd58 0, .wrRsvd59 0, .wrRsvd60 0, .wrRsvd61 0, .wrRsvd62 0, .wrRsvd63 0] : List Instr).map some := by decide

/-- R76 (b): every reserved opcode is refused. -/
theorem test_decode_refuses_reserved_opcodes :
    ∀ w ∈ [0x00, 0x0D, 0x0E, 0x0F, 0x10, 0x17, 0x18, 0x19, 0x1A, 0x1B, 0x1C, 0x1D, 0x1E, 0x1F],
      decodeCommand Variant.all (BitVec.ofNat 32 w) = .error .reservedOpcode := by decide

/-- R76 (a): each of the 27 reserved bits makes a legal word Illegal. -/
theorem test_decode_refuses_reserved_bits :
    ∀ k ∈ List.range 27, decodeCommand Variant.all (BitVec.ofNat 32 (2 ^ (k + 5) + 8)) = .error .reservedBits := by decide

/-- R76 (c), V17 row e: a variant the build lacks. -/
theorem test_decode_refuses_unimplemented :
    decodeCommand [.bitwise, .slicing8] 0x00000009 = .error .notImplemented ∧
    decodeCommand [] 0x00000001 = .ok .initTables := by decide

/-- A write carries its data word above the first byte of the transfer (log entry 4). -/
theorem test_decode_write_with_data : decodeTableWord 40 0xDEADBEEF44 = some (.wrCrc 0xDEADBEEF) := by decide

theorem test_encode_write : encode (.wrRsvd40 0x12345678) = .bus 0x68 0x12345678 := by decide

/-! ## Tables and datapaths (V9 to V11, V20) -/

theorem test_zlib_table_entries :
    (tzRead builtTables 0 0x01, tzRead builtTables 1 0xFF, tzRead builtTables 8 0x80, tzRead builtTables 15 0xFF) =
    (0x77073096, 0x9324FD72, 0x6655004F, 0x0D7139D7) := by decide

theorem test_castagnoli_table_entries :
    (tcRead 0 0x01, tcRead 1 0x80, tcRead 7 0xFF, tcRead 11 0x01) =
    (0xF26B8303, 0xFBC3FAF9, 0x1F1530A5, 0x3171D430) := by decide

theorem test_byte_units :
    bitwiseByte polyZlib 0x12345678 0x9A = 0x4E16B702 ∧
    nibbleStep (tzRead builtTables) 0x12345678 0x0A = 0x3A4D65AF ∧
    halfByte (tzRead builtTables) 0x12345678 0x9A = 0x4E16B702 ∧
    byteAtOnce (tzRead builtTables) 0x12345678 0x9A = 0x4E16B702 ∧
    bitwiseByte polyCastagnoli 0x12345678 0x9A = 0x0219ECBB ∧
    byteAtOnce tcRead 0x12345678 0x9A = 0x0219ECBB := by decide

theorem test_endianness_adapter :
    hostBeat false 0x31 0x32 0x33 0x34 = 0x34333231 ∧ hostBeat true 0x31 0x32 0x33 0x34 = 0x31323334 ∧
    laneWord true 0x31 0x32 0x33 0x34 = 0x34333231 := by decide

/-- The source's vectors (V2, V3): CRC32 and CRC32C of "123456789". -/
theorem test_reference_functions :
    refZlib 0 [0x31, 0x32, 0x33, 0x34, 0x35, 0x36, 0x37, 0x38, 0x39] = 0xCBF43926 ∧
    standardCrc32c 0 [0x31, 0x32, 0x33, 0x34, 0x35, 0x36, 0x37, 0x38, 0x39] = 0xE3069283 := by decide

/-- R7, R8: the normal forms of the two polynomials. -/
theorem test_reflect32 : reflect32 0x04C11DB7 = polyZlib ∧ reflect32 0x1EDC6F41 = polyCastagnoli := by decide

/-! ## The commands: acceptance, and one unit each (V12 to V15, P1, P3)

The first unit of each command over exactly one iteration of `PAT`: `ACC` is the complement of V13's result (family Z), or
V14's result (family C), of the row with SRC = 0, LEN = B, carry-in 0. -/

theorem test_init_tables_accepts :
    after (fun t => (statusWord t, t.opl, t.phase)) (exec .initTables (built State.reset)) =
    some (0x00000001, 0x01, .init) := by decide

theorem test_init_tables_unit :
    after (fun t => (statusWord t, tzRead t.tz 3 0x80)) (engineUnit { State.reset with busy := true, phase := .init, opl := 0x01 }) =
    some (0x00000006, 0xED59B63B) := by decide

/-- P1 step 0 and P3 step 0: `ACC`, `PTR`, `REM` at acceptance. -/
theorem test_zlib_acceptance :
    after (fun t => (t.acc, t.ptr.toNat, t.rem.toNat, t.opl, statusWord t))
      (exec .crc32Slicing8 (built { State.reset with src := 0x1000, len := 9 })) =
    some (0xFFFFFFFF, 0x1000, 9, 0x08, 0x00000003) := by decide

theorem test_castagnoli_acceptance :
    after (fun t => (t.acc, t.ptr.toNat, t.rem.toNat, t.opl, statusWord t))
      (exec .crc32cSlicing8 { State.reset with src := 0x2003, len := 9, crc := 0xFFFFFFFF }) =
    some (0xFFFFFFFF, 0x2003, 9, 0x14, 0x00000001) := by decide

/-- Every command row is accepted with its own opcode. -/
theorem test_every_command_latches_its_opcode :
    Variant.all.map (fun v => after (fun t => t.opl.toNat) (exec (Command.checksum v).toInstr State.reset)) =
    [0x02, 0x03, 0x04, 0x05, 0x06, 0x07, 0x08, 0x09, 0x0A, 0x0B, 0x0C, 0x11, 0x12, 0x13, 0x14, 0x15, 0x16].map some := by
  decide

theorem test_unit_bitwise : firstUnitAcc .bitwise 1 = some (~~~0xD202EF8D) := by decide

theorem test_unit_halfbyte : firstUnitAcc .halfbyte 1 = some (~~~0xD202EF8D) := by decide

theorem test_unit_byte : firstUnitAcc .byte 1 = some (~~~0xD202EF8D) := by decide

theorem test_unit_slicing4 : firstUnitAcc .slicing4 4 = some (~~~0x8BB98613) := by decide

theorem test_unit_slicing2x4 : firstUnitAcc .slicing2x4 8 = some (~~~0x88AA689F) := by decide

theorem test_unit_slicing4x4 : firstUnitAcc .slicing4x4 16 = some (~~~0xCECEE288) := by decide

theorem test_unit_slicing8 : firstUnitAcc .slicing8 8 = some (~~~0x88AA689F) := by decide

theorem test_unit_slicing16 : firstUnitAcc .slicing16 16 = some (~~~0xCECEE288) := by decide

theorem test_unit_slicing2x16 : firstUnitAcc .slicing2x16 32 = some (~~~0x91267E8A) := by decide

theorem test_unit_slicing2x8 : firstUnitAcc .slicing2x8 16 = some (~~~0xCECEE288) := by decide

theorem test_unit_slicing4x8 : firstUnitAcc .slicing4x8 32 = some (~~~0x91267E8A) := by decide

theorem test_unit_cSlicing4 : firstUnitAcc .cSlicing4 4 = some 0x91545164 := by decide

theorem test_unit_cSlicing2x4 : firstUnitAcc .cSlicing2x4 8 = some 0x06040EB1 := by decide

theorem test_unit_cSlicing4x4 : firstUnitAcc .cSlicing4x4 16 = some 0x9BB99201 := by decide

theorem test_unit_cSlicing8 : firstUnitAcc .cSlicing8 8 = some 0x06040EB1 := by decide

theorem test_unit_cSlicing16 : firstUnitAcc .cSlicing16 16 = some 0x9BB99201 := by decide

theorem test_unit_cSlicing32 : firstUnitAcc .cSlicing32 32 = some 0xCC4C4FE4 := by decide

/-- P1 step 2: after the iteration the tail byte 0x39 goes byte-at-once. -/
theorem test_zlib_tail_unit :
    unitAfter (built { State.reset with
      busy := true, phase := .run, opl := 0x08, acc := 0x651F2550, ptr := 0x1008, rem := 1, mem := [(0x1008, 0x39)] }) =
    some (0x340BC6D9, 0x1009, 0) := by decide

/-- P3 step 1: the prologue byte of a misaligned Castagnoli buffer. -/
theorem test_castagnoli_prologue_unit :
    unitAfter { State.reset with
      busy := true, phase := .run, opl := 0x14, acc := 0xFFFFFFFF, ptr := 0x2003, rem := 9, mem := [(0x2003, 0x31)] } =
    some (0x6F0A661C, 0x2004, 8) := by decide

/-- P3 step 2: the iteration at the first aligned address. -/
theorem test_castagnoli_iteration_unit :
    unitAfter { State.reset with
      busy := true, phase := .run, opl := 0x14, acc := 0x6F0A661C, ptr := 0x2004, rem := 8
      mem := (List.range 8).map fun k => (0x2004 + k, BitVec.ofNat 8 (0x32 + k)) } =
    some (0x1CF96D7C, 0x200C, 0) := by decide

/-- P1 step 3: the finish complements a zlib accumulator, and keeps an `ERR_BUSY` (V17 row k). -/
theorem test_zlib_finish :
    after (fun t => (t.crc, statusWord t))
      (engineUnit (built { State.reset with busy := true, phase := .run, opl := 0x08, acc := 0x340BC6D9, err := 3 })) =
    some (0xCBF43926, 0x00000306) := by decide

/-- P3 step 3: the finish of a Castagnoli command does not complement. -/
theorem test_castagnoli_finish :
    after (fun t => (t.crc, statusWord t))
      (engineUnit { State.reset with busy := true, phase := .run, opl := 0x14, acc := 0x1CF96D7C }) =
    some (0x1CF96D7C, 0x00000004) := by decide

/-- The unit counts of V14's row SRC = 3, LEN = 19 (1, 2, 2, 6) and of V13's row SRC = 0, LEN = 33 (0, 1, 1, 3). -/
theorem test_unit_counts : unitCount .cSlicing8 3 19 = 6 ∧ unitCount .slicing4x8 0 33 = 3 := by decide

/-- V21: a table command before the build makes a draw, and no error. -/
theorem test_unbuilt_tables_draw :
    after (fun t => (t.acc, t.draws, t.err)) (engineUnit (accepted .byte (patState 0 1 0))) = some (Config.freeWord 0, 1, 0) := rfl

/-! ## Host transactions (V16) -/

theorem test_rd_cmd : after (fun t => t.reads) (exec .rdCmd (patState 7 3 5)) = some [0] := by decide

theorem test_rd_status :
    after (fun t => t.reads) (exec .rdStatus (built { State.reset with busy := true, err := 2 })) = some [0x00000203] := by decide

/-- V16 row f: with 16 address bits the upper bits of `SRC` ignore the write. -/
theorem test_wr_src_16_bits :
    after (fun t => t.src)
      (exec (.wrSrc 0x12345678) { State.reset with cfg := { Config.default with addrWidth := 16 } }) = some 0x00005678 := by
  decide

theorem test_rd_src : after (fun t => t.reads) (exec .rdSrc { State.reset with src := 0xFFFFFFFF }) = some [0xFFFFFFFF] := by
  decide

theorem test_wr_src : after (fun t => t.src) (exec (.wrSrc 0xFFFFFFFF) State.reset) = some 0xFFFFFFFF := by decide

theorem test_rd_len : after (fun t => t.reads) (exec .rdLen (patState 7 3 5)) = some [3] := by decide

theorem test_wr_len : after (fun t => t.len) (exec (.wrLen 0xFFFFFFFF) State.reset) = some 0xFFFFFFFF := by decide

/-- V16 row i: while a command runs `CRC` reads as the carry-in. -/
theorem test_rd_crc_while_busy :
    after (fun t => t.reads) (exec .rdCrc (accepted .bitwise (patState 0 4 0xDEADBEEF))) = some [0xDEADBEEF] := by decide

theorem test_wr_crc : after (fun t => t.crc) (exec (.wrCrc 0xDEADBEEF) State.reset) = some 0xDEADBEEF := by decide

/-- V16 row b: every reserved index reads 0. -/
theorem test_rd_reserved :
    ∀ k ∈ List.range 59,
      after (fun t => t.reads) (exec (readInstr (BitVec.ofNat 6 (k + 5))) (patState 7 3 5)) = some [0] := by decide

/-- V16 rows c and d, V17 row m: writes of `STATUS` and of a reserved index do nothing, even while busy. -/
theorem test_ignored_writes :
    ∀ d ∈ (0x41 : Descriptor) :: (List.range 59).map (fun k => BitVec.ofNat 7 (k + 0x45)),
      statusAfter (exec (decodeBus d 0xFFFFFFFF) (accepted .bitwise State.reset)) = some (0x00000001, []) := by decide

/-! ## Errors (V17) -/

/-- Rows a to d: Illegal words while idle, after the tables were built. -/
theorem test_wr_cmd_illegal :
    statusAfter (exec (.wrCmd 0x00000000) (built State.reset)) = some (0x00000102, [.illegal]) ∧
    statusAfter (exec (.wrCmd 0x00000020) (built State.reset)) = some (0x00000102, [.illegal]) ∧
    statusAfter (exec (.wrCmd 0x0000000D) (built State.reset)) = some (0x00000102, [.illegal]) ∧
    statusAfter (exec (.wrCmd 0x0000000F) (built State.reset)) = some (0x00000102, [.illegal]) ∧
    statusAfter (exec (.wrCmd 0x00000010) (built State.reset)) = some (0x00000102, [.illegal]) ∧
    statusAfter (exec (.wrCmd 0x00000017) (built State.reset)) = some (0x00000102, [.illegal]) ∧
    statusAfter (exec (.wrCmd 0x0000001F) (built State.reset)) = some (0x00000102, [.illegal]) ∧
    statusAfter (exec (.wrCmd 0x80000008) (built State.reset)) = some (0x00000102, [.illegal]) := by decide

/-- Row e. -/
theorem test_unimplemented_command_is_illegal :
    statusAfter (exec .crc32Slicing16 (built { State.reset with cfg := { Config.default with implemented := [.byte] } })) =
    some (0x00000102, [.illegal]) := by decide

/-- Rows f and i, and row j with 16 address bits. -/
theorem test_wr_cmd_out_of_range :
    statusAfter (exec (.wrCmd 0x02) (built { State.reset with src := 0xFFFFFFF0, len := 0x20 })) = some (0x00000202, [.range]) ∧
    statusAfter (exec (.wrCmd 0x05) (built { State.reset with src := 0xFFFFFFFF, len := 2 })) = some (0x00000202, [.range]) ∧
    statusAfter (exec (.wrCmd 0x11)
      (built { State.reset with cfg := { Config.default with addrWidth := 16 }, src := 0xFFFF, len := 2 })) =
      some (0x00000202, [.range]) := by decide

/-- Rows g and h: `SRC + LEN = 2^32`, and `LEN = 0` at the top of the space, are accepted. -/
theorem test_wr_cmd_in_range :
    statusAfter (exec (.wrCmd 0x02) (built { State.reset with src := 0xFFFFFFF0, len := 0x10 })) = some (0x00000003, []) ∧
    statusAfter (exec (.wrCmd 0x05) (built { State.reset with src := 0xFFFFFFFF, len := 0 })) = some (0x00000003, []) := by decide

/-- Rows k and l: a busy machine drops, and reports BUSY even for an Illegal word. -/
theorem test_writes_while_busy :
    ∀ i ∈ [Instr.wrLen 5, .wrCmd 0x20, .wrSrc 0, .wrCrc 0, .initTables, .crc32cSlicing4],
      statusAfter (exec i (accepted .byte (built (patState 0 9 0)))) = some (0x00000303, [.busy]) := by decide

/-- Row n: a `BusError` aborts, `CRC` keeps the carry-in. -/
theorem test_bus_error_aborts :
    after (fun t => (statusWord t, t.faults, t.crc, t.phase))
      (engineUnit (accepted .bitwise (built { State.reset with src := 0xFFFFFFF0, len := 0x10, crc := 7 }))) =
    some (0x00000402, [.bus], 7, .idle) := by decide

/-- An iteration that meets `BusError` on its last byte changes no engine register. -/
theorem test_bus_error_in_an_iteration :
    after (fun t => (t.acc, t.ptr.toNat, t.rem.toNat, t.err))
      (engineUnit (accepted .cSlicing4 { patState 0 3 9 with len := 4 })) = some (9, 0, 4, 4) := by decide

/-- R201, I5: the host memory never answers. -/
theorem test_unanswered_read_stalls :
    after (fun t => (statusWord t, t.rem.toNat)) (engineUnit (accepted .bitwise { patState 0 4 0 with silent := [0] })) =
    some (0x00000001, 4) := by decide

/-! ## Events and the schedule -/

/-- V18: a reset in the middle of a command. -/
theorem test_reset_event :
    after (fun t => (statusWord t, t.src, t.crc, t.phase, t.mem.read 3))
      (step { accepted .byte (built (patState 3 1 5)) with inputs := [.reset] }) =
    some (0x00000000, 0, 0, .idle, some 0x03) := by decide

theorem test_host_memory_write :
    after (fun t => t.mem) (step { patState 3 2 0 with inputs := [.memWrite 4 0xAA] }) = some [(3, 0x03), (4, 0xAA)] := by decide

theorem test_fetch_word_runs_next :
    after (fun t => (t.opl, t.phase, t.inputs)) (step (State.reset.withFetchWord 32 0b10110)) = some (0x16, .run, []) := by decide

theorem test_window_address :
    windowDescriptor { Config.default with regBase := 0x4000 } true 0x4010 = some 0x44 ∧
    windowDescriptor { Config.default with regBase := 0x4000 } false 0x40FC = some 0x3F ∧
    windowDescriptor { Config.default with regBase := 0x4000 } false 0x4100 = none ∧
    windowDescriptor { Config.default with regBase := 0x4000 } false 0x4006 = none := by decide

/-! ## Witnesses: states and operands that meet the hypotheses of the statements

Each names its statement. Where a statement has several clauses over one input, each clause has its witness, at a boundary
of its range. -/

/-- An idle machine: five bytes from the misaligned address 3, tables built, a carry-in. -/
def idleState : State := built (patState 3 5 0xDEADBEEF)

/-- The machine in the middle of `CRC32_SLICING4`, its first iteration done. -/
def runningState : State :=
  { accepted .slicing4 idleState with acc := 0x12345678, ptr := 7, rem := 1 }

/-- The machine building its tables. -/
def buildingState : State := { State.reset with busy := true, opl := 0x01, phase := .init, src := 9 }

theorem test_witness_inv_runningState : Inv runningState where
  cfgWf := by decide
  busyIff := by decide
  notDoneWhileBusy := fun _ => rfl
  runOpcode := fun _ => ⟨.slicing4, by decide, rfl⟩
  initOpcode := fun h => absurd h (by decide)
  initNotValid := fun h => absurd h (by decide)
  ptrRem := fun _ => by decide
  inSpace := fun _ => by decide
  srcBits := by decide
  errCode := by decide
  errRecorded := fun h => absurd rfl h
  tablesWhole := .inr rfl
  tablesValid := fun _ => rfl
  memWf := by decide
  memInSpace := by decide

theorem test_witness_inv_buildingState : Inv buildingState where
  cfgWf := by decide
  busyIff := by decide
  notDoneWhileBusy := fun _ => rfl
  runOpcode := fun h => absurd h (by decide)
  initOpcode := fun _ => rfl
  initNotValid := fun _ => rfl
  ptrRem := fun h => absurd h (by decide)
  inSpace := fun h => absurd h (by decide)
  srcBits := by decide
  errCode := by decide
  errRecorded := fun h => absurd rfl h
  tablesWhole := .inl rfl
  tablesValid := fun h => absurd h (by decide)
  memWf := by decide
  memInSpace := by decide

theorem test_witness_idleState_acceptable : Acceptable .slicing4 idleState ∧ Acceptable .cSlicing32 idleState :=
  ⟨⟨rfl, by decide, by decide⟩, rfl, by decide, by decide⟩

theorem test_witness_idleState_buffer : BufferHolds idleState [3, 4, 5, 6, 7] := by unfold BufferHolds; decide

theorem test_witness_idleState_tables : TablesReady idleState := ⟨rfl, rfl⟩

theorem test_witness_runningState_running : Running .slicing4 runningState := ⟨rfl, rfl⟩

/-! ### Reset and the invariant -/

theorem test_witness_EveryStepKeepsTheInvariant : Inv runningState ∧ ∃ t, step runningState = .next t :=
  ⟨test_witness_inv_runningState, _, rfl⟩

/-! ### Encoding and the step -/

theorem test_witness_DecodeAndEncodeAgree :
    decode (.command 0x00000001) = .ok .initTables ∧ decode (.command 0x00000016) = .ok .crc32cSlicing32 := ⟨rfl, rfl⟩

theorem test_witness_LegalWordsAreTheOpcodeMap :
    decodeCommand [.byte] 0x00000004 = .ok (.checksum .byte) ∧ decodeCommand [] 0x00000001 = .ok .initTables := ⟨rfl, rfl⟩

theorem test_witness_StepRunsTheDecodedInstruction_transfer :
    ∃ (s : State) (rest : List Input), s.inputs = .transfer (.command 0x08) :: rest ∧
      decode (.command 0x08) = .ok .crc32Slicing8 :=
  ⟨{ idleState with inputs := [.transfer (.command 0x08), .engine] }, [.engine], rfl, rfl⟩

theorem test_witness_StepRunsTheDecodedInstruction_illegal :
    ∃ (s : State) (rest : List Input), s.inputs = .transfer (.command 0x1F) :: rest ∧
      decode (.command 0x1F) = .error .reservedOpcode :=
  ⟨{ idleState with inputs := [.transfer (.command 0x1F)] }, [], rfl, rfl⟩

theorem test_witness_StepRunsTheDecodedInstruction_table_word :
    decodeTableWord 8 0b0000000 = some .rdCmd ∧ decodeTableWord 8 0b1111111 = some (.wrRsvd63 0) ∧
    decodeTableWord 32 0b10110 = some .crc32cSlicing32 := by decide

theorem test_witness_StepRunsTheEngineUnit :
    ({ runningState with inputs := [.engine, .reset] } : State).inputs = .engine :: [.reset] ∧ runningState.inputs = [] ∧
    idleState.phase = .idle := ⟨rfl, rfl, rfl⟩

/-! ### Host transactions -/

theorem test_witness_HostReadsReturnTheRegister : 5 ≤ (5 : BitVec 6).toNat ∧ 5 ≤ (63 : BitVec 6).toNat := by decide

theorem test_witness_idle_hypotheses :
    idleState.busy = false ∧ (.slicing4 : Variant) ∈ idleState.cfg.implemented := ⟨rfl, by decide⟩

theorem test_witness_BusyWritesAreDropped : runningState.busy = true := rfl

theorem test_witness_IgnoredWritesChangeNothing :
    (0x41 : Descriptor) = 0x41 ∧ 0x45 ≤ (0x45 : Descriptor).toNat ∧ 0x45 ≤ (0x7F : Descriptor).toNat := by decide

theorem test_witness_WindowAddressesReachTheirRegister :
    windowDescriptor { Config.default with regBase := 0x100 } true 0x1FC = some 0x7F ∧
    windowDescriptor { Config.default with regBase := 0x100 } false 0x100 = some 0x00 := by decide

/-- `SRC + LEN = 2^32` exactly. -/
theorem test_witness_AcceptanceLatchesTheCommand :
    ∃ s : State, s.busy = false ∧ (.byte : Variant) ∈ s.cfg.implemented ∧
      s.srcValue.toNat + s.len.toNat = 2 ^ s.cfg.addrWidth :=
  ⟨{ State.reset with src := 0xFFFFFFF0, len := 0x10 }, rfl, by decide, by decide⟩

theorem test_witness_IllegalWordsAreRejected :
    (0x00000020 : Word) >>> 5 ≠ 0 ∧ (0x80000008 : Word) >>> 5 ≠ 0 ∧
    (∀ v : Variant, (0x0D : Word).setWidth 5 ≠ encodeOpcode (.checksum v)) ∧
    (0x0D : Word).setWidth 5 ≠ encodeOpcode .initTables ∧
    ({ State.reset with cfg := { Config.default with implemented := [.byte] } } : State).busy = false ∧
    (0x09 : Word).setWidth 5 = encodeOpcode (.checksum .slicing16) ∧ Variant.slicing16 ∉ [Variant.byte] :=
  ⟨by decide, by decide, fun v => by cases v <;> decide, by decide, rfl, rfl, by decide⟩

/-- One byte past the top of the space. -/
theorem test_witness_OutOfRangeIsRejected :
    ∃ s : State, s.busy = false ∧ (.slicing4 : Variant) ∈ s.cfg.implemented ∧
      s.srcValue.toNat + s.len.toNat = 2 ^ s.cfg.addrWidth + 1 :=
  ⟨{ State.reset with src := 0xFFFFFFFF, len := 2 }, rfl, by decide, by decide⟩

theorem test_witness_OutOfRangeIsRejected_example :
    ∃ s : State, s.cfg = Config.default ∧ s.src = 0xFFFFFFF0 ∧ s.len = 0x20 :=
  ⟨{ State.reset with src := 0xFFFFFFF0, len := 0x20 }, rfl, rfl, rfl⟩

/-! ### Tables and datapaths -/

theorem test_witness_TablesFollowTheRecurrence : 1 ≤ 1 ∧ 1 ≤ 15 ∧ 15 ≤ 15 := by decide

theorem test_witness_RomFollowsTheRecurrence : 1 ≤ 1 ∧ 1 ≤ 11 ∧ 11 ≤ 11 := by decide

theorem test_witness_RebuildGivesTheSameTables :
    ∃ s s' : State, s ≠ s' ∧ s.phase = .init ∧ s'.phase = .init ∧ (∃ t, engineUnit s = .next t) ∧ ∃ t, engineUnit s' = .next t :=
  ⟨buildingState, { buildingState with src := 0 }, by decide, rfl, rfl, ⟨_, rfl⟩, _, rfl⟩

theorem test_witness_BlockStepIsTheByteFold :
    ([1, 2, 3, 4] : List Byte).length ∈ [4, 8, 16] ∧ (List.replicate 16 (0xFF : Byte)).length ∈ [4, 8, 16] ∧
    (List.replicate 8 (0xFF : Byte)).length ∈ [4, 8] := by decide

theorem test_witness_WideDecompositionsAgree :
    8 ∈ [4, 8] ∧ 2 * 8 = (List.replicate 16 (1 : Byte)).length ∧ (List.replicate 16 (1 : Byte)).length ∈ [16, 32] ∧
    4 ∈ [4, 8] ∧ 8 * 4 = (List.replicate 32 (1 : Byte)).length ∧ (List.replicate 32 (1 : Byte)).length ∈ [16, 32] := by decide

/-! ### Units -/

theorem test_witness_UnitsFoldTheirBytes :
    Running .slicing4 runningState ∧ runningState.rem ≠ 0 ∧ TablesReady runningState ∧
    memRead runningState runningState.ptr.toNat (nextUnitBytes .slicing4 runningState.ptr.toNat runningState.rem.toNat) =
      .data [7] :=
  ⟨⟨rfl, rfl⟩, by decide, ⟨rfl, rfl⟩, by decide⟩

/-- The same at the boundary of an iteration: exactly `B` bytes remain. -/
theorem test_witness_UnitsFoldTheirBytes_iteration :
    ∃ s : State, Running .cSlicing4 s ∧ s.rem ≠ 0 ∧
      memRead s s.ptr.toNat (nextUnitBytes .cSlicing4 s.ptr.toNat s.rem.toNat) = .data [4, 5, 6, 7] :=
  ⟨{ accepted .cSlicing4 (patState 3 5 0) with ptr := 4, rem := 4 }, ⟨rfl, rfl⟩, by decide, by decide⟩

theorem test_witness_FinishWritesTheResult : ∃ s : State, Running .cSlicing4 s ∧ s.rem = 0 :=
  ⟨{ accepted .cSlicing4 (patState 3 5 0) with ptr := 8, rem := 0 }, ⟨rfl, rfl⟩, rfl⟩

theorem test_witness_BusErrorAbortsTheCommand :
    ∃ s : State, Running .slicing4 s ∧
      memRead s s.ptr.toNat (nextUnitBytes .slicing4 s.ptr.toNat s.rem.toNat) = .busError :=
  ⟨{ accepted .slicing4 (patState 0 3 0) with rem := 4 }, ⟨rfl, rfl⟩, by decide⟩

/-- The last of the four bytes of an iteration answers `BusError`, the others a byte. -/
theorem test_witness_AnyBusErrorAbortsTheCommand :
    ∃ s : State, Running .slicing4 s ∧ 3 + 1 = nextUnitBytes .slicing4 s.ptr.toNat s.rem.toNat ∧
      memByte s (s.ptr.toNat + 3) = .busError ∧
      ∀ j < nextUnitBytes .slicing4 s.ptr.toNat s.rem.toNat, s.ptr.toNat + j ∉ s.silent :=
  ⟨{ accepted .slicing4 (patState 0 3 0) with rem := 4, silent := [4] }, ⟨rfl, rfl⟩, by decide, by decide, by decide⟩

theorem test_witness_UnansweredReadStallsTheEngine :
    ∃ s : State, Running .slicing4 s ∧
      memRead s s.ptr.toNat (nextUnitBytes .slicing4 s.ptr.toNat s.rem.toNat) = .noAnswer :=
  ⟨{ accepted .slicing4 (patState 0 4 0) with silent := [3] }, ⟨rfl, rfl⟩, by decide⟩

/-! ### Whole commands -/

theorem test_witness_ZlibCommandsReturnTheReference :
    variantFamily .slicing4 = .zlib ∧ Acceptable .slicing4 idleState ∧ BufferHolds idleState [3, 4, 5, 6, 7] ∧
    TablesReady idleState :=
  ⟨rfl, test_witness_idleState_acceptable.1, test_witness_idleState_buffer, rfl, rfl⟩

/-- `CRC32_BITWISE` needs no tables. -/
theorem test_witness_ZlibCommandsReturnTheReference_bitwise :
    variantFamily .bitwise = .zlib ∧ Acceptable .bitwise (patState 0 1 7) ∧ BufferHolds (patState 0 1 7) [0] ∧
    (readsTz .bitwise = true → TablesReady (patState 0 1 7)) :=
  ⟨rfl, ⟨rfl, by decide, by decide⟩, by unfold BufferHolds; decide, fun h => absurd h (by decide)⟩

theorem test_witness_CastagnoliCommandsReturnTheReference :
    variantFamily .cSlicing32 = .castagnoli ∧ Acceptable .cSlicing32 idleState ∧ BufferHolds idleState [3, 4, 5, 6, 7] :=
  ⟨rfl, test_witness_idleState_acceptable.2, test_witness_idleState_buffer⟩

theorem test_witness_ZeroLengthLeavesTheChecksum :
    ∃ s : State, s.busy = false ∧ Variant.slicing8 ∈ s.cfg.implemented ∧ s.len = 0 ∧ s.src = 0xFFFFFFFF :=
  ⟨{ State.reset with src := 0xFFFFFFFF }, rfl, by decide, rfl, rfl⟩

theorem test_witness_UnbuiltTablesGiveADraw :
    readsTz .byte = true ∧ Acceptable .byte (patState 0 1 0) ∧ BufferHolds (patState 0 1 0) [0] ∧
    (patState 0 1 0).tblValid = false ∧ (patState 0 1 0).len ≠ 0 :=
  ⟨rfl, ⟨rfl, by decide, by decide⟩, by unfold BufferHolds; decide, rfl, by decide⟩

theorem test_witness_RunningCommandShowsOnlyBusy :
    Acceptable .slicing4 idleState ∧ BufferHolds idleState [3, 4, 5, 6, 7] ∧ 2 < unitsOf .slicing4 idleState :=
  ⟨test_witness_idleState_acceptable.1, test_witness_idleState_buffer, by decide⟩

theorem test_witness_EveryCommandEnds :
    (Inv runningState ∧ runningState.busy = true ∧ runningState.silent = []) ∧
    (Inv buildingState ∧ buildingState.busy = true ∧ buildingState.silent = []) :=
  ⟨⟨test_witness_inv_runningState, rfl, rfl⟩, test_witness_inv_buildingState, rfl, rfl⟩

theorem test_witness_ChunksChainThroughCrc :
    variantFamily .slicing4 = variantFamily .bitwise ∧ TablesReady idleState ∧ Acceptable .slicing4 idleState ∧
    BufferHolds idleState [3, 4, 5, 6, 7] ∧ Acceptable .bitwise { idleState with src := 4, len := 2 } ∧
    BufferHolds { idleState with src := 4, len := 2 } [4, 5] :=
  ⟨rfl, ⟨rfl, rfl⟩, test_witness_idleState_acceptable.1, test_witness_idleState_buffer, ⟨rfl, by decide, by decide⟩,
    by unfold BufferHolds; decide⟩

theorem test_witness_ScheduledCommandRunsSafely :
    ∃ s : State, Acceptable .slicing4 s ∧ BufferHolds s [3, 4, 5, 6, 7] ∧ s.faults = [] ∧
      s.inputs = [.transfer (encode (Command.checksum .slicing4).toInstr)] ∧ TablesReady s :=
  ⟨{ idleState with inputs := [.transfer (encode (Command.checksum .slicing4).toInstr)] },
    test_witness_idleState_acceptable.1, test_witness_idleState_buffer, rfl, rfl, test_witness_idleState_tables⟩

/-- Two units are needed, and this polling gives exactly two, with reads of `STATUS` around them. -/
def twoUnitPolls : List Input := [.transfer (.bus 0x01 0), .engine, .transfer (.bus 0x01 0), .engine]

def sequenceState : State := { idleState with inputs := commandSequence .slicing4 4 1 7 twoUnitPolls ++ [] }

def bootState : State := { State.reset with inputs := bootSequence twoUnitPolls ++ [Input.reset] }

theorem test_witness_BootSequenceMakesTheTablesReady :
    bootState.busy = false ∧ Polls twoUnitPolls ∧ Input.engine ∈ twoUnitPolls ∧
    bootState.inputs = bootSequence twoUnitPolls ++ [Input.reset] :=
  ⟨rfl, by unfold Polls; decide, by decide, rfl⟩

theorem test_witness_CommandSequenceReturnsTheReference :
    Acceptable .slicing4 { sequenceState with src := 4, len := 1 } ∧
    BufferHolds { sequenceState with src := 4, len := 1 } [4] ∧ TablesReady sequenceState ∧ Polls twoUnitPolls ∧
    unitsOf .slicing4 { sequenceState with src := 4, len := 1 } = twoUnitPolls.count .engine ∧
    sequenceState.inputs = commandSequence .slicing4 4 1 7 twoUnitPolls ++ [] :=
  ⟨⟨rfl, by decide, by decide⟩, by unfold BufferHolds; decide, ⟨rfl, rfl⟩, by unfold Polls; decide, by decide, rfl⟩

/-! ### Whole-machine rules -/

theorem test_witness_InstructionsKeepTheirFrame :
    (∃ t, exec .crc32Byte idleState = .next t) ∧ (∃ t, exec (.wrSrc 5) idleState = .next t) ∧
    (∃ t, exec (.wrCmd 0x1F) idleState = .next t ∧ t.busy = idleState.busy) ∧
    (∃ t, exec .initTables idleState = .next t ∧ t.busy ≠ idleState.busy) ∧
    ∃ t, exec (.wrCmd 0x01) idleState = .next t ∧ t.tblValid ≠ idleState.tblValid :=
  ⟨⟨_, rfl⟩, ⟨_, rfl⟩, ⟨_, rfl, rfl⟩, ⟨_, rfl, by decide⟩, _, rfl, by decide⟩

/-- A finish that changes `CRC`, and a build that changes `T_Z`. -/
theorem test_witness_EngineKeepsItsFrame :
    (∃ s t : State, engineUnit s = .next t ∧ t.crc ≠ s.crc) ∧
    ∃ t : State, engineUnit buildingState = .next t ∧ t.tblValid ≠ buildingState.tblValid :=
  ⟨⟨{ accepted .cSlicing4 State.reset with acc := 5 }, _, rfl, by decide⟩, _, rfl, by decide⟩

theorem test_witness_OnlyTheHostWritesItsMemory :
    ∃ s t : State, step s = .next t ∧ t.mem.read 4 ≠ s.mem.read 4 :=
  ⟨{ idleState with inputs := [.memWrite 4 0xAA] }, _, rfl, by decide⟩

/-- The last byte of the buffer while busy, the byte after it, and an idle write. -/
theorem test_witness_BufferIsStableWhileBusy :
    ∃ s : State, s.inputs = .memWrite 7 0 :: [] ∧ 7 < s.cfg.spaceSize ∧
      s.busy = true ∧ s.srcValue.toNat ≤ 7 ∧ 7 + 1 = s.srcValue.toNat + s.len.toNat :=
  ⟨{ runningState with inputs := [.memWrite 7 0] }, rfl, by decide, rfl, by decide, by decide⟩

theorem test_witness_BufferIsStableWhileBusy_outside :
    ∃ s : State, s.inputs = .memWrite 8 0 :: [] ∧ 8 < s.cfg.spaceSize ∧
      ¬(s.busy = true ∧ s.srcValue.toNat ≤ 8 ∧ 8 < s.srcValue.toNat + s.len.toNat) :=
  ⟨{ runningState with inputs := [.memWrite 8 0] }, rfl, by decide, by decide⟩

theorem test_witness_FaultRecordOnlyGrows : ∃ s t : State, step s = .next t ∧ s.faults ≠ [] :=
  ⟨{ runningState with faults := [.illegal] }, _, rfl, by decide⟩

theorem test_witness_BusyHasItsWriters :
    (∃ s t : State, step s = .next t ∧ s.busy = false ∧ t.busy = true) ∧
    (∃ s t : State, step s = .next t ∧ s.busy = true ∧ t.busy = false ∧ t.done = true) ∧
    (∃ s t : State, step s = .next t ∧ s.busy = true ∧ t.busy = false ∧ t.err = 4) ∧
    ∃ s t : State, step s = .next t ∧ s.busy = true ∧ t.busy = false ∧ s.inputs = [.reset] :=
  ⟨⟨{ idleState with inputs := [.transfer (.command 0x02)] }, _, rfl, rfl, rfl⟩,
    ⟨buildingState, _, rfl, rfl, rfl, rfl⟩,
    ⟨{ runningState with mem := [] }, _, rfl, rfl, rfl, rfl⟩,
    { runningState with inputs := [.reset] }, _, rfl, rfl, rfl, rfl⟩

theorem test_witness_TblValidHasItsWriters :
    (∃ t : State, step buildingState = .next t ∧ buildingState.tblValid = false ∧ t.tblValid = true) ∧
    (∃ s t : State, step s = .next t ∧ s.tblValid = true ∧ t.tblValid = false ∧ t.phase = .init) ∧
    ∃ s t : State, step s = .next t ∧ s.tblValid = true ∧ t.tblValid = false ∧ s.inputs = [.reset] :=
  ⟨⟨_, rfl, rfl, rfl⟩,
    ⟨{ idleState with inputs := [.transfer (.bus 0x40 0x01)] }, _, rfl, rfl, rfl, rfl⟩,
    { idleState with inputs := [.reset] }, _, rfl, rfl, rfl, rfl⟩

theorem test_witness_DoneHasItsWriters :
    (∃ t : State, step buildingState = .next t ∧ buildingState.done = false ∧ t.done = true) ∧
    (∃ s t : State, step s = .next t ∧ s.done = true ∧ t.done = false ∧ t.busy = true) ∧
    (∃ s t : State, step s = .next t ∧ s.done = true ∧ t.done = false ∧ t.err = 1) ∧
    ∃ s t : State, step s = .next t ∧ s.done = true ∧ t.done = false ∧ t.err = 4 :=
  ⟨⟨_, rfl, rfl, rfl⟩,
    ⟨{ idleState with done := true, inputs := [.transfer (.command 0x02)] }, _, rfl, rfl, rfl, rfl⟩,
    ⟨{ idleState with done := true, inputs := [.transfer (.command 0x00)] }, _, rfl, rfl, rfl, rfl⟩,
    { runningState with done := true, mem := [] }, _, rfl, rfl, rfl, rfl⟩

theorem test_witness_ErrHasItsWriters :
    (∃ s t : State, step s = .next t ∧ t.err ≠ s.err ∧ t.err = 0) ∧ ∃ s t : State, step s = .next t ∧ t.err ≠ s.err ∧ t.err = 3 :=
  ⟨⟨{ idleState with err := 2, inputs := [.transfer (.command 0x02)] }, _, rfl, by decide, rfl⟩,
    { runningState with inputs := [.transfer (.bus 0x43 5)] }, _, rfl, by decide, rfl⟩

end Sys2Proof.Tests
end

section
namespace Sys2Proof.Machine

/-! ## Updates that keep the invariant -/

theorem Inv.idle_of_not_busy {s : State} (h : Inv s) (hb : s.busy = false) : s.phase = .idle :=
  not_ne_iff.1 fun hp => Bool.noConfusion (hb.symm.trans (h.busyIff.2 hp))

/-- The invariant says nothing of the schedule. -/
theorem inv_withInputs {s : State} (h : Inv s) (rest : List Input) : Inv { s with inputs := rest } := { h with }

theorem errValue_toNat_le (e : ErrCode) : (errValue e).toNat ≤ 4 := by cases e <;> decide

/-- Recording an error keeps `ERR` the code of the last one recorded (R210, R216). -/
theorem inv_raiseError {s : State} (h : Inv s) (e : ErrCode) : Inv (raiseError e s) :=
  { h with
    errCode := errValue_toNat_le e
    errRecorded := fun _ => ⟨e, by simp, rfl⟩ }

/-- A rejection is a recorded error, with DONE cleared (R195). -/
theorem inv_reject {s : State} (h : Inv s) (e : ErrCode) : Inv (reject e s) :=
  { inv_raiseError h e with notDoneWhileBusy := fun _ => rfl }

/-- The three operand registers are written only while no checksum runs, so the clauses about a running buffer are empty. -/
theorem inv_setSrc {s : State} (h : Inv s) (hb : s.busy = false) (v : Word) : Inv (s.setSrc v) :=
  have hidle : s.phase ≠ .run := by simp [h.idle_of_not_busy hb]
  { h with
    ptrRem := fun hp => absurd hp hidle
    inSpace := fun hp => absurd hp hidle
    srcBits := by
      rw [setSrc_src, lowBits_toNat]
      exact Nat.mod_lt _ (Nat.two_pow_pos _) }

theorem inv_setLen {s : State} (h : Inv s) (hb : s.busy = false) (v : Word) : Inv (s.setLen v) :=
  have hidle : s.phase ≠ .run := by simp [h.idle_of_not_busy hb]
  { h with
    ptrRem := fun hp => absurd hp hidle
    inSpace := fun hp => absurd hp hidle }

theorem inv_accept_initTables {s : State} (h : Inv s) : Inv (accept .initTables s) :=
  { h with
    busyIff := by simp
    notDoneWhileBusy := fun _ => rfl
    runOpcode := nofun
    initOpcode := fun _ => rfl
    initNotValid := fun _ => rfl
    ptrRem := nofun
    inSpace := nofun
    errCode := by simp
    errRecorded := fun he => absurd rfl he
    tablesValid := nofun }

/-- The acceptance of a checksum checks the range, and starts `PTR` and `REM` at the buffer (R193, R194). -/
theorem inv_accept_checksum {s : State} (h : Inv s) {v : Variant} (hv : v ∈ s.cfg.implemented)
    (hr : rangeOk s = true) : Inv (accept (.checksum v) s) :=
  { h with
    busyIff := by simp
    notDoneWhileBusy := fun _ => rfl
    runOpcode := fun _ => ⟨v, hv, rfl⟩
    initOpcode := nofun
    initNotValid := nofun
    ptrRem := fun _ => congrArg (· + s.len.toNat) (BitVec.toNat_setWidth_of_le (by decide))
    inSpace := fun _ => (rangeOk_iff s).1 hr
    errCode := by simp
    errRecorded := fun he => absurd rfl he }

/-- Going idle, by a finish (DONE = 1) or an abort (DONE = 0), empties every clause about a running command. -/
theorem inv_goIdle {s : State} (h : Inv s) (d : Bool) : Inv { s with busy := false, done := d, phase := .idle } :=
  { h with
    busyIff := by simp
    notDoneWhileBusy := nofun
    runOpcode := nofun
    initOpcode := nofun
    initNotValid := nofun
    ptrRem := nofun
    inSpace := nofun }

theorem inv_finish {s : State} (h : Inv s) (f : Family) : Inv (finish f s) := { inv_goIdle h true with }

theorem inv_abort {s : State} (h : Inv s) : Inv (abort s) := inv_goIdle (inv_raiseError h .bus) false

/-- The table-build unit writes the whole of `T_Z` and ends the phase in which TBL_VALID must be 0 (R106). -/
theorem inv_tableBuild {s : State} (h : Inv s) :
    Inv (flagsOfFinish { s with tz := builtTables, tblValid := true }) :=
  { inv_goIdle h true with
    initNotValid := nofun
    tablesWhole := .inr rfl
    tablesValid := fun _ => rfl }

/-- Consuming `n` bytes of the rest moves `PTR` and `REM` by the same number, and `PTR` stays below 2^33 because the buffer
lies in a space of at most 2^32 bytes (R31, R33). -/
theorem inv_consume {s : State} (h : Inv s) (hp : s.phase = .run) {n : Nat} (hn : n ≤ s.rem.toNat) (a : Word) (d : Nat) :
    Inv (consume n { s with acc := a, draws := d }) :=
  { h with
    ptrRem := fun _ => by
      have hsum := h.ptrRem hp
      have hrem := s.rem.isLt
      have hsrc := s.srcValue.isLt
      have hlen := s.len.isLt
      change (s.ptr + BitVec.ofNat 33 n).toNat + (s.rem - BitVec.ofNat 32 n).toNat = s.srcValue.toNat + s.len.toNat
      rw [BitVec.toNat_add, BitVec.toNat_sub, BitVec.toNat_ofNat, BitVec.toNat_ofNat]
      omega }

/-- A reset leaves the build, the host data space and the records, and nothing shown (R240). -/
theorem inv_resetEvent {s : State} (h : Inv s) : Inv (resetEvent s) :=
  { h with
    busyIff := by simp
    notDoneWhileBusy := nofun
    runOpcode := nofun
    initOpcode := nofun
    initNotValid := nofun
    ptrRem := nofun
    inSpace := nofun
    srcBits := Nat.two_pow_pos _
    errCode := by simp
    errRecorded := fun he => absurd rfl he
    tablesWhole := .inl rfl
    tablesValid := nofun }

theorem inv_memWrite {s : State} (h : Inv s) {a : Nat} (ha : a < s.cfg.spaceSize) (b : Byte) :
    Inv { s with mem := s.mem.write a b } :=
  { h with
    memWf := Memory.write_wf _ _ _ h.memWf
    memInSpace := fun c hc => by
      rcases Memory.mem_write _ _ _ _ hc with rfl | hc
      · exact ha
      · exact h.memInSpace c hc }

/-! ## The invariant along every step -/

theorem HostEffect.keeps_inv {i : Instr} {s t : State} (e : HostEffect i s t) (h : Inv s) : Inv t := by
  cases e with
  | read idx => exact { h with }
  | ignored => exact h
  | dropped _ => exact inv_raiseError h .busy
  | setSrc v idle _ => exact inv_setSrc h idle v
  | setLen v idle _ => exact inv_setLen h idle v
  | setCrc v _ _ => exact { h with }
  | rejected e _ _ => exact inv_reject h e
  | accepted c _ _ ok =>
    obtain rfl | ⟨v, hv, rfl, hr⟩ := ok
    · exact inv_accept_initTables h
    · exact inv_accept_checksum h hv hr

theorem EngineEffect.keeps_inv {s t : State} (e : EngineEffect s t) (h : Inv s) : Inv t := by
  cases e with
  | still => exact h
  | tableBuild _ => exact inv_tableBuild h
  | finished v _ _ _ => exact inv_finish h _
  | aborted _ _ => exact inv_abort h
  | consumed n a d hp _ hn => exact inv_consume h hp hn a d

/-- Settles O5: each event of the schedule is one of the updates above. -/
theorem everyStepKeepsTheInvariant : Obligations.EveryStepKeepsTheInvariant := by
  intro s t h hstep
  cases step_cases hstep with
  | host x rest t _ e => exact e.keeps_inv (inv_withInputs h rest)
  | engineTurn rest t _ e => exact e.keeps_inv (inv_withInputs h rest)
  | engineAlone t _ e => exact e.keeps_inv h
  | reset rest _ => exact inv_resetEvent (inv_withInputs h rest)
  | memWrite a b rest _ ha _ => exact inv_memWrite (inv_withInputs h rest) ha b

end Sys2Proof.Machine
end

section
namespace Sys2Proof.Machine

/-! ## The register window -/

/-- Settles O15: the descriptor is WE above the six bits of the index, and the index is the word offset of the address. -/
theorem windowAddressesReachTheirRegister : Obligations.WindowAddressesReachTheirRegister := by
  intro cfg write addr d
  have hdesc (n : Nat) (hn : n < 64) : (BitVec.ofBool write ++ BitVec.ofNat 6 n).toNat = 64 * write.toNat + n := by
    rw [BitVec.toNat_append, BitVec.toNat_ofBool, BitVec.toNat_ofNat, Nat.mod_eq_of_lt hn, ← Nat.shiftLeft_add_eq_or_of_lt hn,
      Nat.shiftLeft_eq, Nat.mul_comm]
  unfold windowDescriptor
  constructor
  · intro h
    split at h
    case isTrue hw =>
      obtain ⟨hbase, halign, hidx⟩ := hw
      cases h
      refine ⟨BitVec.ofNat 6 ((addr - cfg.regBase) / 4), ?_, ?_⟩
      · rw [BitVec.toNat_ofNat]; omega
      · rw [hdesc _ hidx, BitVec.toNat_ofNat]; omega
    case isFalse => contradiction
  · rintro ⟨idx, rfl, hd⟩
    have hidx := idx.isLt
    have hoff : (cfg.regBase + 4 * idx.toNat - cfg.regBase) / 4 = idx.toNat := by omega
    rw [if_pos (by omega), hoff]
    refine congrArg some (BitVec.eq_of_toNat_eq ?_)
    rw [hdesc _ hidx, hd]

/-! ## The writers of the flags -/

/-- Settles O49: by the effects a unit can have. -/
theorem engineKeepsItsFrame : Obligations.EngineKeepsItsFrame := by
  intro s t h
  cases engineUnit_cases h with
  | still => simp
  | tableBuild hp => simp [hp]
  | finished v hp _ hz => simp [hp, hz]
  | aborted _ _ => simp
  | consumed n a d _ _ _ => simp

/-- What a step can be, for statements that name no schedule of the engine: a transaction, a unit (whether the engine's turn
was scheduled or nothing was), a reset, or a write that touches only the host data space. -/
theorem step_writers {s t : State} (h : step s = .next t) :
    (∃ x rest, s.inputs = .transfer x :: rest ∧ HostEffect (instrOf x) { s with inputs := rest } t) ∨
    (∃ rest, EngineEffect { s with inputs := rest } t) ∨
    (∃ rest, s.inputs = .reset :: rest ∧ t = resetEvent { s with inputs := rest }) ∨
    ∃ rest m, t = { s with inputs := rest, mem := m } := by
  cases step_cases h with
  | host x rest t hi e => exact .inl ⟨x, rest, hi, e⟩
  | engineTurn rest t _ e => exact .inr (.inl ⟨rest, e⟩)
  | engineAlone t _ e => exact .inr (.inl ⟨s.inputs, e⟩)
  | reset rest hi => exact .inr (.inr (.inl ⟨rest, hi, rfl⟩))
  | memWrite a b rest _ _ _ => exact .inr (.inr (.inr ⟨rest, _, rfl⟩))

/-! ### BUSY (R23) -/

theorem HostEffect.busy_of_busy {i : Instr} {s t : State} (e : HostEffect i s t) (hs : s.busy = true) : t.busy = true := by
  cases e <;> simp_all

theorem HostEffect.busy_rises {i : Instr} {s t : State} (e : HostEffect i s t) (hs : s.busy = false)
    (ht : t.busy = true) :
    ∃ c : Command, (i = c.toInstr ∨ i = .wrCmd (encodeWord c)) ∧ t.opl = encodeOpcode c ∧ t.err = 0 := by
  cases e with
  | accepted c _ hi _ =>
    refine ⟨c, ?_, by cases c <;> rfl, by cases c <;> rfl⟩
    obtain hi | ⟨w, hi, hw⟩ := hi
    · exact .inl hi
    · exact .inr (decodeWord_ok hw ▸ hi)
  | _ => simp_all

theorem EngineEffect.idle_of_idle {s t : State} (e : EngineEffect s t) (hs : s.busy = false) : t.busy = false := by
  cases e <;> simp [hs]

theorem EngineEffect.busy_falls {s t : State} (e : EngineEffect s t) (hs : s.busy = true) (ht : t.busy = false) :
    (s.phase ≠ .idle ∧ t.done = true ∧ t.err = s.err) ∨ (s.phase = .run ∧ t.done = false ∧ t.err = 4) := by
  cases e with
  | tableBuild hp => exact .inl ⟨by simp [hp], rfl, rfl⟩
  | finished v hp _ _ => exact .inl ⟨by simp [hp], rfl, rfl⟩
  | aborted hp _ => exact .inr ⟨hp, rfl, rfl⟩
  | _ => simp [hs] at ht

/-- Settles O53: only an acceptance raises BUSY, and only the engine's last unit or a reset clears it. -/
theorem busyHasItsWriters : Obligations.BusyHasItsWriters := by
  intro s t hstep
  obtain ⟨x, rest, hi, e⟩ | ⟨rest, e⟩ | ⟨rest, hi, rfl⟩ | ⟨rest, m, rfl⟩ := step_writers hstep
  · refine ⟨fun hs ht => ?_, fun hs ht => ?_⟩
    · obtain ⟨c, hc⟩ := e.busy_rises hs ht
      exact ⟨x, c, rest, hi, hc⟩
    · simp [e.busy_of_busy hs] at ht
  · refine ⟨fun hs ht => ?_, fun hs ht => ?_⟩
    · simp [e.idle_of_idle hs] at ht
    · exact or_assoc.1 (.inl (e.busy_falls hs ht))
  · exact ⟨nofun, fun _ _ => .inr (.inr ⟨rest, hi⟩)⟩
  · exact ⟨fun hs ht => by simp [hs] at ht, fun hs ht => by simp [hs] at ht⟩

/-! ### TBL_VALID (R24) -/

theorem HostEffect.tblValid_changes {i : Instr} {s t : State} (e : HostEffect i s t) (h : t.tblValid ≠ s.tblValid) :
    s.busy = false ∧ t.tblValid = false ∧ t.phase = .init ∧ t.opl = 0x01 := by
  cases e with
  | accepted c idle _ _ =>
    cases c with
    | initTables => exact ⟨idle, rfl, rfl, rfl⟩
    | checksum v => exact absurd rfl h
  | _ => exact absurd rfl h

theorem EngineEffect.tblValid_changes {s t : State} (e : EngineEffect s t) (h : t.tblValid ≠ s.tblValid) :
    s.phase = .init ∧ t.tblValid = true ∧ t.phase = .idle ∧ t.tz = builtTables := by
  cases e with
  | tableBuild hp => exact ⟨hp, rfl, rfl, rfl⟩
  | _ => exact absurd rfl h

/-- Settles O54: the build sets TBL_VALID, and the acceptance of `INIT_TABLES` and a reset clear it. -/
theorem tblValidHasItsWriters : Obligations.TblValidHasItsWriters := by
  intro s t hstep
  obtain ⟨x, rest, hi, e⟩ | ⟨rest, e⟩ | ⟨rest, hi, rfl⟩ | ⟨rest, m, rfl⟩ := step_writers hstep
  · refine ⟨fun hs ht => ?_, fun hs ht => ?_⟩ <;> obtain ⟨idle, hv, hp, ho⟩ := e.tblValid_changes (by simp [hs, ht])
    · simp [hv] at ht
    · exact .inl ⟨idle, hp, ho⟩
  · refine ⟨fun hs ht => ?_, fun hs ht => ?_⟩ <;> obtain ⟨hp, hv, hi, htz⟩ := e.tblValid_changes (by simp [hs, ht])
    · exact ⟨hp, hi, htz⟩
    · simp [hv] at ht
  · exact ⟨nofun, fun _ _ => .inr ⟨rest, hi⟩⟩
  · exact ⟨fun hs ht => by simp [hs] at ht, fun hs ht => by simp [hs] at ht⟩

/-! ### DONE (R25) -/

theorem HostEffect.done_changes {i : Instr} {s t : State} (e : HostEffect i s t) (h : t.done ≠ s.done) :
    t.done = false ∧ s.busy = false ∧ (t.busy = true ∨ t.err ∈ [1, 2]) := by
  cases e with
  | accepted c idle _ _ => cases c <;> exact ⟨rfl, idle, .inl rfl⟩
  | rejected e idle he => exact ⟨rfl, idle, .inr (by obtain rfl | rfl := he <;> simp [errValue])⟩
  | _ => exact absurd rfl h

theorem EngineEffect.done_rises {s t : State} (e : EngineEffect s t) (hs : s.done = false) (ht : t.done = true) :
    s.phase ≠ .idle ∧ t.phase = .idle ∧ t.busy = false := by
  cases e with
  | tableBuild hp => exact ⟨by simp [hp], rfl, rfl⟩
  | finished v hp _ _ => exact ⟨by simp [hp], rfl, rfl⟩
  | _ => simp [hs] at ht

theorem EngineEffect.done_falls {s t : State} (e : EngineEffect s t) (hs : s.done = true) (ht : t.done = false) :
    s.phase = .run ∧ t.err = 4 := by
  cases e with
  | aborted hp _ => exact ⟨hp, rfl⟩
  | _ => simp [hs] at ht

/-- Settles O55: a finish sets DONE; an acceptance, a rejection, an abort and a reset clear it. -/
theorem doneHasItsWriters : Obligations.DoneHasItsWriters := by
  intro s t hstep
  obtain ⟨x, rest, hi, e⟩ | ⟨rest, e⟩ | ⟨rest, hi, rfl⟩ | ⟨rest, m, rfl⟩ := step_writers hstep
  · refine ⟨fun hs ht => ?_, fun hs ht => ?_⟩ <;> obtain ⟨hd, idle, h⟩ := e.done_changes (by simp [hs, ht])
    · simp [hd] at ht
    · exact h.elim (fun hb => .inl ⟨idle, hb⟩) fun he => .inr (.inl ⟨idle, he⟩)
  · exact ⟨fun hs ht => e.done_rises hs ht, fun hs ht => .inr (.inr (.inl (e.done_falls hs ht)))⟩
  · exact ⟨nofun, fun _ _ => .inr (.inr (.inr ⟨rest, hi⟩))⟩
  · exact ⟨fun hs ht => by simp [hs] at ht, fun hs ht => by simp [hs] at ht⟩

/-! ### ERR (R26, R216) -/

theorem HostEffect.err_changes {i : Instr} {s t : State} (e : HostEffect i s t) (h : t.err ≠ s.err) :
    (t.err = 0 ∧ s.busy = false ∧ t.busy = true) ∨ ∃ e : ErrCode, t.faults = s.faults ++ [e] ∧ t.err = errValue e := by
  cases e with
  | dropped _ => exact .inr ⟨.busy, rfl, rfl⟩
  | rejected e _ _ => exact .inr ⟨e, rfl, rfl⟩
  | accepted c idle _ _ => cases c <;> exact .inl ⟨rfl, idle, rfl⟩
  | _ => exact absurd rfl h

theorem EngineEffect.err_changes {s t : State} (e : EngineEffect s t) (h : t.err ≠ s.err) :
    t.faults = s.faults ++ [.bus] ∧ t.err = errValue .bus := by
  cases e with
  | aborted _ _ => exact ⟨rfl, rfl⟩
  | _ => exact absurd rfl h

/-- Settles O56: a drop, a rejection and an abort record the code they write; an acceptance and a reset clear `ERR`. -/
theorem errHasItsWriters : Obligations.ErrHasItsWriters := by
  intro s t hstep herr
  obtain ⟨x, rest, hi, e⟩ | ⟨rest, e⟩ | ⟨rest, hi, rfl⟩ | ⟨rest, m, rfl⟩ := step_writers hstep
  · obtain ⟨h0, hb⟩ | he := e.err_changes herr
    · exact .inl ⟨h0, .inl hb⟩
    · exact .inr he
  · exact .inr ⟨.bus, e.err_changes herr⟩
  · exact .inl ⟨rfl, .inr ⟨rest, hi⟩⟩
  · exact absurd rfl herr

end Sys2Proof.Machine
end

section
namespace Sys2Proof.Machine

/-! ## The bit iteration as a linear map

Every datapath of the block is a power of `bitstep p`, which is linear over XOR and undoes a left shift. -/

/-- R120: `-(c & 1)` is all ones exactly when bit 0 is set. -/
theorem bitstepMask_eq_bitstep (p c : Word) : bitstepMask p c = bitstep p c := by
  unfold bitstepMask bitstep
  rw [show (1 : Word) = 1#32 from rfl, BitVec.and_one_eq_setWidth_ofBool_getLsbD]
  cases c.getLsbD 0
  · simp
  · exact congrArg (c >>> 1 ^^^ ·) (BitVec.and_allOnes (w := 32))

theorem bitstep_xor (p a b : Word) : bitstep p (a ^^^ b) = bitstep p a ^^^ bitstep p b := by
  unfold bitstep
  ext i hi
  by_cases ha : a.getLsbD 0 <;> by_cases hb : b.getLsbD 0 <;> simp [ha, hb] <;> grind

theorem iterate_add (f : Word → Word) (m n : Nat) (c : Word) : iterate f (m + n) c = iterate f n (iterate f m c) := by
  induction m generalizing c with
  | zero => rw [Nat.zero_add]; rfl
  | succ m ih => rw [Nat.succ_add]; exact ih (f c)

theorem iterate_bitstep_xor (p : Word) (n : Nat) (a b : Word) :
    iterate (bitstep p) n (a ^^^ b) = iterate (bitstep p) n a ^^^ iterate (bitstep p) n b := by
  induction n generalizing a b with
  | zero => rfl
  | succ n ih => simp only [iterate, bitstep_xor, ih]

@[simp] theorem iterate_bitstep_zero (p : Word) (n : Nat) : iterate (bitstep p) n 0#32 = 0#32 := by
  induction n with
  | zero => rfl
  | succ n ih => rw [iterate, show bitstep p 0#32 = 0#32 by simp [bitstep], ih]

/-- On a word with bit 0 clear the bit iteration is a right shift. -/
theorem bitstep_even {p c : Word} (h : c.getLsbD 0 = false) : bitstep p c = c >>> 1 := by
  rw [bitstep, h]; exact BitVec.xor_zero

/-- `n` bit iterations undo a left shift by `n` that lost no bit. -/
theorem iterate_bitstep_shiftLeft (p : Word) (n : Nat) (y : Word) (h : (y <<< n) >>> n = y) :
    iterate (bitstep p) n (y <<< n) = y := by
  induction n with
  | zero => simp [iterate]
  | succ n ih =>
    have hstep : bitstep p (y <<< (n + 1)) = y <<< n := by
      rw [bitstep_even (by simp)]
      ext i hi
      have := congrArg (fun w : Word => w.getLsbD (i - n)) h
      simp at this ⊢
      grind
    have hn : (y <<< n) >>> n = y := by
      ext i hi
      have := congrArg (fun w : Word => w.getLsbD i) h
      simp at this ⊢
      grind
    rw [iterate, hstep, ih hn]

/-- `n` bit iterations shift a part that stands above the low `n` bits into place. -/
theorem iterate_bitstep_xor_shiftLeft (p : Word) (n : Nat) (x : Word) {y : Word} (h : (y <<< n) >>> n = y) :
    iterate (bitstep p) n (x ^^^ y <<< n) = iterate (bitstep p) n x ^^^ y := by
  rw [iterate_bitstep_xor, iterate_bitstep_shiftLeft p n y h]

/-- `n` bit iterations shift the upper bits down and leave the low part `lo` to be worked out. -/
theorem iterate_bitstep_split (p : Word) (n : Nat) {x lo : Word} (h : x = ((x >>> n) <<< n) ^^^ lo) :
    iterate (bitstep p) n x = (x >>> n) ^^^ iterate (bitstep p) n lo := by
  have hlossless : (((x >>> n) <<< n) >>> n : Word) = x >>> n := by
    ext i hi; simp; grind
  calc iterate (bitstep p) n x = iterate (bitstep p) n (lo ^^^ (x >>> n) <<< n) := by rw [BitVec.xor_comm lo, ← h]
    _ = (x >>> n) ^^^ iterate (bitstep p) n lo := by
      rw [iterate_bitstep_xor_shiftLeft p n lo hlossless, BitVec.xor_comm]

/-! ## Table entries and byte units -/

/-- `x` is its upper 24 bits and its low byte. -/
theorem word_split_byte (x : Word) : x = ((x >>> 8) <<< 8) ^^^ ((x.setWidth 8 : Byte).setWidth 32) := by
  ext i hi; simp; grind

/-- R105: the zero step is eight bit iterations. -/
theorem zeroStep_level0 (p x : Word) : zeroStep (level0 p) x = iterate (bitstep p) 8 x :=
  (iterate_bitstep_split p 8 (word_split_byte x)).symm

/-- Level `j` is `8 (j + 1)` bit iterations of its index (R101, R102). -/
theorem tableEntry_eq_iterate (p : Word) (j : Nat) (i : Byte) :
    tableEntry p j i = iterate (bitstep p) (8 * (j + 1)) (i.setWidth 32) := by
  induction j with
  | zero => rfl
  | succ j ih => rw [tableEntry, zeroStep_level0, ih, ← iterate_add]; rfl

/-- R124: the byte-at-once unit over level 0 is eight bit iterations of the accumulator and the datum. -/
theorem byteAtOnce_eq_iterate {p : Word} {t : Table} (ht : ∀ i, t 0 i = level0 p i) (acc : Word) (d : Byte) :
    byteAtOnce t acc d = iterate (bitstep p) 8 (acc ^^^ d.setWidth 32) := by
  have hupper : (acc ^^^ d.setWidth 32) >>> 8 = acc >>> 8 := by
    ext i hi; simp
  rw [← zeroStep_level0, zeroStep, hupper, byteAtOnce, ht]

theorem bitwiseByte_eq_iterate (p acc : Word) (d : Byte) :
    bitwiseByte p acc d = iterate (bitstep p) 8 (acc ^^^ d.setWidth 32) := by
  rw [bitwiseByte, funext (bitstepMask_eq_bitstep p)]

/-- The mask 0xF keeps the low nibble. -/
theorem word_and_fifteen (x : Word) : x &&& 0xF = (x.setWidth 4).setWidth 32 := by
  apply BitVec.eq_of_toNat_eq
  rw [BitVec.toNat_and, BitVec.toNat_setWidth_of_le (by decide), BitVec.toNat_setWidth]
  exact Nat.and_two_pow_sub_one_eq_mod x.toNat 4

theorem byte_and_fifteen (x : Byte) : x &&& 0xF = (x.setWidth 4).setWidth 8 := by
  apply BitVec.eq_of_toNat_eq
  rw [BitVec.toNat_and, BitVec.toNat_setWidth_of_le (by decide), BitVec.toNat_setWidth]
  exact Nat.and_two_pow_sub_one_eq_mod x.toNat 4

/-- R122: a nibble step over level 0 is four bit iterations of the accumulator and the nibble. -/
theorem nibbleStep_eq_iterate {p : Word} {t : Table} (ht : ∀ i, t 0 i = level0 p i) (acc : Word) {n : Byte}
    (hn : n &&& 0xF = n) : nibbleStep t acc n = iterate (bitstep p) 4 (acc ^^^ n.setWidth 32) := by
  have hupper : (acc ^^^ n.setWidth 32) >>> 4 = acc >>> 4 := by
    rw [← hn, byte_and_fifteen]; ext i hi; simp
  have hsplit (x : Word) : x = ((x >>> 4) <<< 4) ^^^ (x &&& 0xF) := by
    rw [word_and_fifteen]; ext i hi; simp; grind
  have hindex (x : Word) : (((x &&& 0xF) <<< 4).setWidth 8 : Byte).setWidth 32 = (x &&& 0xF) <<< 4 := by
    rw [word_and_fifteen]; ext i hi; simp; grind
  have hlossless (x : Word) : ((x &&& 0xF) <<< 4) >>> 4 = x &&& 0xF := by
    rw [word_and_fifteen]; ext i hi; simp; grind
  rw [nibbleStep, ht, level0, hindex, iterate_add _ 4 4, iterate_bitstep_shiftLeft _ _ _ (hlossless _), ← hupper,
    ← iterate_bitstep_split p 4 (hsplit _)]

/-- R124: the two nibbles of a byte, the low one first, make the byte's eight bit iterations. -/
theorem halfByte_eq_iterate {p : Word} {t : Table} (ht : ∀ i, t 0 i = level0 p i) (acc : Word) (d : Byte) :
    halfByte t acc d = iterate (bitstep p) 8 (acc ^^^ d.setWidth 32) := by
  have hlow : (d &&& 0xF) &&& 0xF = d &&& 0xF := by rw [BitVec.and_assoc]; rfl
  have hhigh : (d >>> 4) &&& (0xF : Byte) = d >>> 4 := by
    rw [byte_and_fifteen]; ext i hi; simp; grind
  have hlossless : (((d >>> 4).setWidth 32 : Word) <<< 4) >>> 4 = (d >>> 4).setWidth 32 := by
    ext i hi; simp
  have hbyte : d.setWidth 32 = (d &&& 0xF).setWidth 32 ^^^ ((d >>> 4).setWidth 32 : Word) <<< 4 := by
    rw [byte_and_fifteen]; ext i hi; simp; grind
  rw [halfByte, nibbleStep_eq_iterate ht _ hlow, nibbleStep_eq_iterate ht _ hhigh, iterate_add _ 4 4, hbyte,
    ← BitVec.xor_assoc, iterate_bitstep_xor_shiftLeft _ _ _ hlossless]

/-! ## Lane words and the slicing datapath -/

theorem lane_word (b0 b1 b2 b3 : Byte) :
    lane (word b0 b1 b2 b3) 0 = b0 ∧ lane (word b0 b1 b2 b3) 1 = b1 ∧
    lane (word b0 b1 b2 b3) 2 = b2 ∧ lane (word b0 b1 b2 b3) 3 = b3 := by
  refine ⟨?_, ?_, ?_, ?_⟩
  · ext i hi; simp [lane, word]
  all_goals ext i hi; simp [lane, word]; grind

/-- R53: the adapter gives back the little-endian word in either byte order of the host bus. -/
theorem laneWord_eq_word (bigEndian : Bool) (b0 b1 b2 b3 : Byte) : laneWord bigEndian b0 b1 b2 b3 = word b0 b1 b2 b3 := by
  cases bigEndian
  · rfl
  · obtain ⟨h0, h1, h2, h3⟩ := lane_word b3 b2 b1 b0
    simp only [laneWord, adapter, hostBeat, byteSwap, if_true, h0, h1, h2, h3]

/-- A word is its four lanes, each in its place, lane 0 first (R12). -/
theorem word_eq_lanes (w : Word) :
    w = (lane w 0).setWidth 32 ^^^ (((lane w 1).setWidth 32 ^^^
      (((lane w 2).setWidth 32 ^^^ ((lane w 3).setWidth 32 <<< 8)) <<< 8)) <<< 8) := by
  ext i hi; simp [lane]; grind

/-- 32 bit iterations of `x ^ w` fold in the four lanes of `w` one after another. -/
theorem iterate_bitstep_word (p x w : Word) :
    iterate (bitstep p) 32 (x ^^^ w) =
      iterate (bitstep p) 8 (iterate (bitstep p) 8 (iterate (bitstep p) 8 (iterate (bitstep p) 8
        (x ^^^ (lane w 0).setWidth 32) ^^^ (lane w 1).setWidth 32) ^^^ (lane w 2).setWidth 32) ^^^
        (lane w 3).setWidth 32) := by
  have hlossless (y : Byte) (z : Word) (hz : z >>> 16 = 0) :
      ((y.setWidth 32 ^^^ z <<< 8) <<< 8) >>> 8 = y.setWidth 32 ^^^ z <<< 8 := by
    ext i hi
    have := congrArg (fun w : Word => w.getLsbD (i - 24)) hz
    simp at this ⊢
    grind
  have h3 : ((lane w 3).setWidth 32 : Word) >>> 16 = 0 := by
    ext i hi; simp; grind
  have h2 : ((lane w 2).setWidth 32 ^^^ (lane w 3).setWidth 32 <<< 8 : Word) >>> 16 = 0 := by
    ext i hi; simp; grind
  have h1 : (((lane w 3).setWidth 32 : Word) <<< 8) >>> 8 = (lane w 3).setWidth 32 := by
    ext i hi; simp; grind
  conv => lhs; rw [word_eq_lanes w]
  rw [iterate_add _ 8 24, iterate_add _ 8 16, iterate_add _ 8 8, ← BitVec.xor_assoc,
    iterate_bitstep_xor_shiftLeft _ _ _ (hlossless _ _ h2), ← BitVec.xor_assoc,
    iterate_bitstep_xor_shiftLeft _ _ _ (hlossless _ _ h3), ← BitVec.xor_assoc,
    iterate_bitstep_xor_shiftLeft _ _ _ h1]

/-- A table whose first `n` levels are those of polynomial `p`. -/
def ServesLevels (t : Table) (p : Word) (n : Nat) : Prop := ∀ j < n, ∀ i, t j i = tableEntry p j i

/-- The built RAM serves its 16 levels (R106). -/
theorem builtTables_serves : ServesLevels (tzRead builtTables) polyZlib 16 := by
  intro j hj i
  simp [tzRead, builtTables, List.getElem?_map, List.getElem?_range hj, List.getElem?_range (show i.toNat < 256 from i.isLt)]

/-- The ROM is defined level by level (R108). -/
theorem tcRead_serves (n : Nat) : ServesLevels tcRead polyCastagnoli n := fun _ _ _ => rfl

/-- R142, R143: the four lookups of a word, lane 0 in level `k + 3`, are `8 (k + 4)` bit iterations of the word. -/
theorem wordLookups_eq_iterate {t : Table} {p : Word} {n k : Nat} (ht : ServesLevels t p n) (hk : k + 3 < n) (w : Word) :
    wordLookups t (k + 3) w = iterate (bitstep p) (32 + 8 * k) w := by
  have hlevel (j : Nat) (hj : j ≤ 3) (i : Byte) :
      t (k + j) i = iterate (bitstep p) (8 * k) (iterate (bitstep p) (8 * (j + 1)) (i.setWidth 32)) := by
    rw [ht _ (by omega), tableEntry_eq_iterate, ← iterate_add]
    congr 1; omega
  have hword := iterate_bitstep_word p 0#32 w
  simp only [BitVec.zero_xor, iterate_bitstep_xor, ← iterate_add] at hword
  rw [iterate_add, hword, wordLookups, hlevel 3 (by omega), show k + 3 - 1 = k + 2 from rfl, show k + 3 - 2 = k + 1 from rfl,
    show k + 3 - 3 = k + 0 from rfl, hlevel 2 (by omega), hlevel 1 (by omega), hlevel 0 (by omega)]
  simp only [iterate_bitstep_xor]

/-- The word-serial step: four byte steps at once. -/
def wordStep (p acc w : Word) : Word := iterate (bitstep p) 32 (acc ^^^ w)

/-- The lookups of a block's words, with the accumulator carried through, are the word-serial fold. -/
theorem foldl_wordStep {t : Table} {p : Word} {n : Nat} (ht : ServesLevels t p n) (ws : List Word)
    (hn : 4 * ws.length ≤ n) (acc : Word) :
    ws.foldl (wordStep p) acc =
      iterate (bitstep p) (32 * ws.length) acc ^^^ blockLookups t (4 * ws.length - 1) ws := by
  induction ws generalizing acc with
  | nil => simp [iterate, blockLookups]
  | cons w ws ih =>
    simp only [List.length_cons] at hn
    have hlook : wordLookups t (4 * (ws.length + 1) - 1) w = iterate (bitstep p) (32 + 32 * ws.length) w := by
      have := wordLookups_eq_iterate (k := 4 * ws.length) ht (by omega) w
      rw [show 4 * (ws.length + 1) - 1 = 4 * ws.length + 3 by omega, this]
      congr 1; omega
    rw [List.foldl_cons, ih (by omega), wordStep, List.length_cons, blockLookups, hlook,
      show 4 * (ws.length + 1) - 1 - 4 = 4 * ws.length - 1 by omega, Nat.mul_succ, Nat.add_comm (32 * ws.length),
      iterate_add, iterate_add, ← BitVec.xor_assoc, ← iterate_bitstep_xor, ← iterate_bitstep_xor]

/-- R142, R143: the base block step is the word-serial fold of its words. -/
theorem blockStep_eq_foldl {t : Table} {p : Word} {n : Nat} (ht : ServesLevels t p n) {ws : List Word} (hne : ws ≠ [])
    (hn : 4 * ws.length ≤ n) (acc : Word) : blockStep t (4 * ws.length) acc ws = ws.foldl (wordStep p) acc := by
  obtain ⟨w, ws, rfl⟩ := List.exists_cons_of_ne_nil hne
  have hfold := foldl_wordStep ht ((w ^^^ acc) :: ws) hn 0#32
  rw [iterate_bitstep_zero, BitVec.zero_xor] at hfold
  simp only [List.foldl_cons, wordStep, BitVec.zero_xor] at hfold ⊢
  rw [BitVec.xor_comm acc w]
  exact hfold.symm

/-- The lane words of `4 m` bytes are `m` words, and folding them is folding the bytes (R52, R141). -/
theorem foldl_laneWords (bigEndian : Bool) (p : Word) (m : Nat) (c : List Byte) (hc : c.length = 4 * m) (acc : Word) :
    (laneWords bigEndian c).length = m ∧
    (laneWords bigEndian c).foldl (wordStep p) acc = c.foldl (bitwiseByte p) acc := by
  induction m generalizing c acc with
  | zero => obtain rfl := List.length_eq_zero_iff.1 hc; exact ⟨rfl, rfl⟩
  | succ m ih =>
    match c, hc with
    | b0 :: b1 :: b2 :: b3 :: rest, hc =>
      obtain ⟨hlen, hfold⟩ := ih rest (by simpa [Nat.mul_succ] using hc) (wordStep p acc (word b0 b1 b2 b3))
      obtain ⟨h0, h1, h2, h3⟩ := lane_word b0 b1 b2 b3
      refine ⟨by simp [laneWords, hlen], ?_⟩
      rw [laneWords, List.foldl_cons, laneWord_eq_word, hfold, wordStep, iterate_bitstep_word, h0, h1, h2, h3]
      simp only [List.foldl_cons, bitwiseByte_eq_iterate]

/-- R144: an iteration of `unroll` base blocks of `4 m` bytes is the byte-serial fold of its bytes. -/
theorem iteration_eq_foldl {t : Table} {p : Word} {n m : Nat} (ht : ServesLevels t p n) (hm : 0 < m) (hn : 4 * m ≤ n)
    (bigEndian : Bool) (unroll : Nat) (acc : Word) (c : List Byte) (hc : c.length = unroll * (4 * m)) :
    iteration bigEndian t (4 * m) unroll acc c = c.foldl (bitwiseByte p) acc := by
  induction unroll generalizing acc c with
  | zero => obtain rfl := List.length_eq_zero_iff.1 (hc.trans (Nat.zero_mul _)); rfl
  | succ unroll ih =>
    rw [Nat.succ_mul] at hc
    have htake : (c.take (4 * m)).length = 4 * m := by rw [List.length_take]; omega
    obtain ⟨hlen, hfold⟩ := foldl_laneWords bigEndian p m (c.take (4 * m)) htake acc
    have hblock := blockStep_eq_foldl ht (List.ne_nil_of_length_pos (hlen ▸ hm)) (hlen.symm ▸ hn) acc
    rw [hlen, hfold] at hblock
    rw [iteration, hblock, ih _ _ (by rw [List.length_drop]; omega), ← List.foldl_append, List.take_append_drop]

end Sys2Proof.Machine
end

section
namespace Sys2Proof.Machine

/-! ## What one reading unit computes -/

/-- The table set the commands of a variant's family are defined over: the built RAM or the ROM (R132, R170). -/
def unitTable (v : Variant) : Table :=
  match variantFamily v with
  | .zlib => tzRead builtTables
  | .castagnoli => tcRead

/-- The update of a reading unit whose datapath is `f`: through the RAM and its TBL_VALID where the command reads `T_Z`. -/
def accUpdate (v : Variant) (f : List Byte → Table → Word → Word) (c : List Byte) : State → State :=
  if readsTz v then updateAccFromTz (f c) else updateAcc (f c (unitTable v))

/-- A datapath that computes the byte-serial fold of `n` bytes over its family's tables. -/
def FoldsBytes (v : Variant) (n : Nat) (f : List Byte → Table → Word → Word) : Prop :=
  ∀ c acc, c.length = n → f c (unitTable v) acc = c.foldl (bitwiseByte (polyOf (variantFamily v))) acc

/-- An outcome that reads the next `nextUnitBytes` and folds them into `ACC`. -/
def FoldsNextBytes (v : Variant) (s : State) (o : Outcome) : Prop :=
  ∃ f, FoldsBytes v (nextUnitBytes v s.ptr.toNat s.rem.toNat) f ∧
    o = unitOver (nextUnitBytes v s.ptr.toNat s.rem.toNat) (accUpdate v f) s

theorem accUpdate_touches (v : Variant) (f : List Byte → Table → Word → Word) : TouchesAccOnly (accUpdate v f) := by
  unfold accUpdate
  cases readsTz v
  · exact updateAcc_touches fun c => f c (unitTable v)
  · exact updateAccFromTz_touches f

theorem accUpdate_of_readsTz {v : Variant} (h : readsTz v = true) (f : List Byte → Table → Word → Word) :
    accUpdate v f = fun c => updateAccFromTz (f c) := by
  funext c; rw [accUpdate, if_pos h]

theorem accUpdate_of_not_readsTz {v : Variant} (h : readsTz v = false) (f : List Byte → Table → Word → Word) :
    accUpdate v f = fun c => updateAcc (f c (unitTable v)) := by
  funext c; rw [accUpdate, if_neg (by simp [h])]

/-- Only zlib commands read `T_Z` (R132). -/
theorem zlib_of_readsTz {v : Variant} (h : readsTz v = true) : variantFamily v = .zlib :=
  of_decide_eq_true (Bool.and_eq_true_iff.1 h).1

theorem unitTable_of_readsTz {v : Variant} (h : readsTz v = true) : unitTable v = tzRead builtTables := by
  simp [unitTable, zlib_of_readsTz h]

/-- With the tables a command needs in place, its units compute their datapath's value. -/
theorem accUpdate_of_ready {v : Variant} {s : State} (h : readsTz v = true → TablesReady s)
    (f : List Byte → Table → Word → Word) (c : List Byte) :
    accUpdate v f c s = { s with acc := f c (unitTable v) s.acc } := by
  unfold accUpdate
  cases hr : readsTz v
  · rfl
  · obtain ⟨hvalid, htz⟩ := h hr
    simp [updateAccFromTz, hvalid, htz, unitTable_of_readsTz hr]

theorem byteAtOnce_eq_bitwiseByte {t : Table} {p : Word} {n : Nat} (ht : ServesLevels t p n) (hn : 0 < n) :
    byteAtOnce t = bitwiseByte p := by
  funext acc d
  rw [byteAtOnce_eq_iterate (ht 0 hn), bitwiseByte_eq_iterate]

theorem halfByte_eq_bitwiseByte {t : Table} {p : Word} {n : Nat} (ht : ServesLevels t p n) (hn : 0 < n) :
    halfByte t = bitwiseByte p := by
  funext acc d
  rw [halfByte_eq_iterate (ht 0 hn), bitwiseByte_eq_iterate]

/-! ### The units of the four kinds of command -/

theorem nextUnitBytes_zlib {v : Variant} (hf : variantFamily v = .zlib) (a : Nat) {r : Nat} (h : r ≠ 0) :
    nextUnitBytes v a r = if iterationSize v ≤ r then iterationSize v else 1 := by
  simp [nextUnitBytes, h, hf]

theorem nextUnitBytes_castagnoli {v : Variant} (hf : variantFamily v = .castagnoli) (a : Nat) {r : Nat} (h : r ≠ 0) :
    nextUnitBytes v a r = if a % 4 ≠ 0 then 1 else if iterationSize v ≤ r then iterationSize v else 1 := by
  simp [nextUnitBytes, h, hf]

theorem rem_toNat_ne_zero {w : Word} (h : w ≠ 0) : w.toNat ≠ 0 := Nat.one_le_iff_ne_zero.1 (rem_pos h)

/-- R145: the zlib byte-at-once byte of a tail, and the whole of `CRC32_BYTE`. -/
theorem foldsBytes_byteAtOnce {v : Variant} (hr : readsTz v = true) (n : Nat) :
    FoldsBytes v n fun c t acc => c.foldl (byteAtOnce t) acc := by
  have hf := zlib_of_readsTz hr
  intro c acc _
  simp only [unitTable_of_readsTz hr, byteAtOnce_eq_bitwiseByte builtTables_serves (by decide), hf, polyOf]

/-- R140, R144: a zlib slicing command whose base block has `m` words. -/
theorem zlibSlicingUnit_folds {v : Variant} {m unroll : Nat} (hr : readsTz v = true)
    (hsize : iterationSize v = unroll * (4 * m)) (hm : 0 < m) (hm4 : 4 * m ≤ 16) {s : State} (h : s.rem ≠ 0) :
    FoldsNextBytes v s (zlibSlicingUnit (4 * m) unroll s) := by
  have hf := zlib_of_readsTz hr
  unfold FoldsNextBytes zlibSlicingUnit
  rw [nextUnitBytes_zlib hf _ (rem_toNat_ne_zero h), if_neg h, hsize]
  split
  · refine ⟨fun c t acc => iteration s.cfg.hostBigEndian t (4 * m) unroll acc c, ?_, by rw [accUpdate_of_readsTz hr]⟩
    intro c acc hc
    simp only [unitTable_of_readsTz hr, hf, polyOf]
    exact iteration_eq_foldl builtTables_serves hm hm4 _ _ _ _ hc
  · exact ⟨_, foldsBytes_byteAtOnce hr 1, by rw [accUpdate_of_readsTz hr]⟩

/-- R171 to R176: a Castagnoli command whose iteration has the value of the byte-serial fold. -/
theorem castagnoliUnit_folds {v : Variant} (hf : variantFamily v = .castagnoli) {step : Word → List Byte → Word}
    (hstep : ∀ c acc, c.length = iterationSize v → step acc c = c.foldl (bitwiseByte polyCastagnoli) acc)
    {s : State} (h : s.rem ≠ 0) : FoldsNextBytes v s (castagnoliUnit (iterationSize v) step s) := by
  have hr : readsTz v = false := by simp [readsTz, hf]
  have hbyte : FoldsBytes v 1 fun c _ acc => c.foldl (byteAtOnce tcRead) acc := by
    intro c acc _
    simp only [byteAtOnce_eq_bitwiseByte (tcRead_serves 1) Nat.one_pos, hf, polyOf]
  unfold FoldsNextBytes castagnoliUnit castagnoliByteUnit
  rw [nextUnitBytes_castagnoli hf _ (rem_toNat_ne_zero h), if_neg h]
  split
  · exact ⟨_, hbyte, by rw [accUpdate_of_not_readsTz hr]⟩
  · split
    · refine ⟨fun c _ acc => step acc c, ?_, by rw [accUpdate_of_not_readsTz hr]⟩
      intro c acc hc
      simp only [hf, polyOf, hstep c acc hc]
    · exact ⟨_, hbyte, by rw [accUpdate_of_not_readsTz hr]⟩

/-- R174: the iteration of a Castagnoli slicing command over the ROM. -/
theorem castagnoliSlicingUnit_folds {v : Variant} {m unroll : Nat} (hf : variantFamily v = .castagnoli)
    (hsize : iterationSize v = unroll * (4 * m)) (hm : 0 < m) {s : State} (h : s.rem ≠ 0) :
    FoldsNextBytes v s (castagnoliSlicingUnit (4 * m) unroll s) := by
  unfold castagnoliSlicingUnit
  rw [← hsize]
  exact castagnoliUnit_folds hf
    (fun c acc hc => iteration_eq_foldl (tcRead_serves _) hm (Nat.le_refl _) _ _ _ _ (hc.trans hsize)) h

/-- R176: the iteration of a wide command is the fold itself. -/
theorem castagnoliWideUnit_folds {v : Variant} (hf : variantFamily v = .castagnoli) {s : State} (h : s.rem ≠ 0) :
    FoldsNextBytes v s (castagnoliWideUnit (iterationSize v) s) :=
  castagnoliUnit_folds hf (fun c acc _ => by rw [byteAtOnce_eq_bitwiseByte (tcRead_serves 1) Nat.one_pos]) h

/-- R197: every reading unit, of every command, folds its next bytes. -/
theorem checksumUnit_folds (v : Variant) {s : State} (h : s.rem ≠ 0) : FoldsNextBytes v s (checksumUnit v s) := by
  have hbyte {v : Variant} (hf : variantFamily v = .zlib) (hsize : iterationSize v = 1) :
      nextUnitBytes v s.ptr.toNat s.rem.toNat = 1 := by
    rw [nextUnitBytes_zlib hf _ (rem_toNat_ne_zero h), hsize, ite_self]
  cases v
  case bitwise =>
    unfold FoldsNextBytes
    rw [hbyte rfl rfl]
    exact ⟨fun c _ acc => c.foldl (bitwiseByte polyZlib) acc, fun _ _ _ => rfl, if_neg h⟩
  case halfbyte =>
    unfold FoldsNextBytes
    rw [hbyte rfl rfl]
    refine ⟨fun c t acc => c.foldl (halfByte t) acc, fun c acc _ => ?_, if_neg h⟩
    exact congrArg (fun g => c.foldl g acc) (halfByte_eq_bitwiseByte builtTables_serves (by decide))
  case byte =>
    unfold FoldsNextBytes
    rw [hbyte rfl rfl]
    exact ⟨_, foldsBytes_byteAtOnce rfl 1, if_neg h⟩
  case slicing4 => exact zlibSlicingUnit_folds (m := 1) (unroll := 1) rfl rfl (by decide) (by decide) h
  case slicing2x4 => exact zlibSlicingUnit_folds (m := 1) (unroll := 2) rfl rfl (by decide) (by decide) h
  case slicing4x4 => exact zlibSlicingUnit_folds (m := 1) (unroll := 4) rfl rfl (by decide) (by decide) h
  case slicing8 => exact zlibSlicingUnit_folds (m := 2) (unroll := 1) rfl rfl (by decide) (by decide) h
  case slicing16 => exact zlibSlicingUnit_folds (m := 4) (unroll := 1) rfl rfl (by decide) (by decide) h
  case slicing2x16 => exact zlibSlicingUnit_folds (m := 4) (unroll := 2) rfl rfl (by decide) (by decide) h
  case slicing2x8 => exact zlibSlicingUnit_folds (m := 2) (unroll := 2) rfl rfl (by decide) (by decide) h
  case slicing4x8 => exact zlibSlicingUnit_folds (m := 2) (unroll := 4) rfl rfl (by decide) (by decide) h
  case cSlicing4 => exact castagnoliSlicingUnit_folds (m := 1) (unroll := 1) rfl rfl (by decide) h
  case cSlicing2x4 => exact castagnoliSlicingUnit_folds (m := 1) (unroll := 2) rfl rfl (by decide) h
  case cSlicing4x4 => exact castagnoliSlicingUnit_folds (m := 1) (unroll := 4) rfl rfl (by decide) h
  case cSlicing8 => exact castagnoliSlicingUnit_folds (m := 2) (unroll := 1) rfl rfl (by decide) h
  case cSlicing16 => exact castagnoliWideUnit_folds (v := .cSlicing16) rfl h
  case cSlicing32 => exact castagnoliWideUnit_folds (v := .cSlicing32) rfl h

/-- R199: with nothing left to read, the unit of every command is its finish. -/
theorem checksumUnit_finish (v : Variant) {s : State} (h : s.rem = 0) :
    checksumUnit v s = .next (finish (variantFamily v) s) := by
  cases v <;> exact if_pos h

/-! ## Counting units -/

theorem iterationSize_pos (v : Variant) : 0 < iterationSize v := by cases v <;> decide

/-- A Castagnoli iteration keeps an aligned address aligned (R172). -/
theorem iterationSize_castagnoli {v : Variant} (hf : variantFamily v = .castagnoli) : iterationSize v % 4 = 0 := by
  revert hf
  cases v <;> decide

theorem nextUnitBytes_le (v : Variant) (a r : Nat) : nextUnitBytes v a r ≤ r := by
  rcases Nat.eq_zero_or_pos r with rfl | h
  · exact Nat.le_refl 0
  cases hf : variantFamily v
  · rw [nextUnitBytes_zlib hf a h.ne']; split <;> omega
  · rw [nextUnitBytes_castagnoli hf a h.ne']; split <;> [omega; split <;> omega]

/-- The count by its parts: the prologue, the rest by iterations and tail bytes, and the finish. -/
theorem unitCount_eq (v : Variant) (a r : Nat) :
    unitCount v a r = prologueBytes (variantFamily v) a r +
      ((r - prologueBytes (variantFamily v) a r) / iterationSize v +
        (r - prologueBytes (variantFamily v) a r) % iterationSize v) + 1 := by
  simp only [unitCount, Nat.add_assoc]

theorem unitCount_zero (v : Variant) (a : Nat) : unitCount v a 0 = 1 := by
  have hp : prologueBytes (variantFamily v) a 0 = 0 := by cases variantFamily v <;> simp [prologueBytes]
  simp [unitCount, hp]

/-- Iterations and tail bytes of `r` bytes: one iteration takes off its size, and a tail byte itself. -/
theorem div_add_mod_of_le {b r : Nat} (hb : 0 < b) (h : b ≤ r) : r / b + r % b = (r - b) / b + (r - b) % b + 1 := by
  rw [Nat.div_eq_sub_div hb h, Nat.mod_eq_sub_mod h]; omega

theorem div_add_mod_of_lt {b r : Nat} (h : r < b) : r / b + r % b = r := by
  rw [Nat.div_eq_of_lt h, Nat.mod_eq_of_lt h, Nat.zero_add]

/-- R201: a reading unit leaves one unit fewer to go. -/
theorem unitCount_succ (v : Variant) (a : Nat) {r : Nat} (h : r ≠ 0) :
    unitCount v a r = unitCount v (a + nextUnitBytes v a r) (r - nextUnitBytes v a r) + 1 := by
  have hb := iterationSize_pos v
  cases hf : variantFamily v
  case zlib =>
    simp only [unitCount_eq, hf, prologueBytes, Nat.zero_add, Nat.sub_zero, nextUnitBytes_zlib hf a h]
    split
    case isTrue hle => rw [div_add_mod_of_le hb hle]
    case isFalse hlt => rw [div_add_mod_of_lt (by omega), div_add_mod_of_lt (by omega)]; omega
  case castagnoli =>
    have h4 := iterationSize_castagnoli hf
    simp only [unitCount_eq, hf, prologueBytes, nextUnitBytes_castagnoli hf a h]
    split
    case isTrue hmis =>
      have hrest : r - min r ((4 - a % 4) % 4) = r - 1 - min (r - 1) ((4 - (a + 1) % 4) % 4) := by omega
      rw [← hrest]; omega
    case isFalse hal =>
      have hp : (4 - a % 4) % 4 = 0 := by omega
      split
      case isTrue hle =>
        have hp' : (4 - (a + iterationSize v) % 4) % 4 = 0 := by omega
        simp only [hp, hp', Nat.min_zero, Nat.zero_add, Nat.sub_zero, div_add_mod_of_le hb hle]
      case isFalse hlt =>
        rw [div_add_mod_of_lt (by omega), div_add_mod_of_lt (by omega)]
        omega

end Sys2Proof.Machine
end

section
namespace Sys2Proof.Machine

/-! ## A running command with its buffer in front of it -/

/-- A running checksum whose remaining bytes all answer, as `c`, at addresses that fit `PTR`. -/
structure Pending (v : Variant) (s : State) (c : List Byte) : Prop where
  running : Running v s
  answers : memRead s s.ptr.toNat s.rem.toNat = .data c
  fits : s.ptr.toNat + s.rem.toNat < 2 ^ 33

theorem engineUnit_of_running {v : Variant} {s : State} (h : Running v s) : engineUnit s = checksumUnit v s := by
  obtain ⟨hphase, hopl⟩ := h
  exact engineUnit_running hphase (by rw [hopl, decodeOpcode_encodeOpcode])

theorem consume_ptr_toNat {s : State} {n : Nat} (h : s.ptr.toNat + n < 2 ^ 33) :
    (consume n s).ptr.toNat = s.ptr.toNat + n := by
  rw [consume_ptr, BitVec.toNat_add, BitVec.toNat_ofNat]; omega

theorem consume_rem_toNat {s : State} {n : Nat} (h : n ≤ s.rem.toNat) : (consume n s).rem.toNat = s.rem.toNat - n := by
  have hr := s.rem.isLt
  rw [consume_rem, BitVec.toNat_sub, BitVec.toNat_ofNat]; omega

/-- What a reading unit from `s` to `t` does that folds `c1` and leaves `c2` to be read. -/
structure UnitTaken (v : Variant) (s t : State) (c1 c2 : List Byte) : Prop where
  unit : engineUnit s = .next t
  pending : Pending v t c2
  ptr : t.ptr.toNat = s.ptr.toNat + nextUnitBytes v s.ptr.toNat s.rem.toNat
  rem : t.rem.toNat = s.rem.toNat - nextUnitBytes v s.ptr.toNat s.rem.toNat
  /-- With tables built or not, only the engine's registers and the draws move. -/
  engineOnly : ∃ a d, t = { s with acc := a, draws := d, ptr := t.ptr, rem := t.rem }
  /-- With the tables the command reads in place, `ACC` is the fold. -/
  folds : (readsTz v = true → TablesReady s) →
    t = { s with acc := c1.foldl (bitwiseByte (polyOf (variantFamily v))) s.acc, ptr := t.ptr, rem := t.rem }

/-- A reading unit takes the first bytes off the buffer, folds them, and leaves the rest pending. -/
theorem Pending.unit {v : Variant} {s : State} {c : List Byte} (hp : Pending v s c) (h : s.rem ≠ 0) :
    ∃ c1 c2 t, c = c1 ++ c2 ∧ UnitTaken v s t c1 c2 := by
  obtain ⟨hrun, hans, hfits⟩ := hp
  set n := nextUnitBytes v s.ptr.toNat s.rem.toNat with hn
  have hle : n ≤ s.rem.toNat := nextUnitBytes_le v _ _
  obtain ⟨c1, c2, h1, h2, rfl⟩ := memRead_add (m := n) (n := s.rem.toNat - n) (by rwa [Nat.add_sub_cancel' hle])
  obtain ⟨f, hfold, hunit⟩ := checksumUnit_folds v h
  obtain ⟨a, d, hupd⟩ := accUpdate_touches v f c1 s
  have hptr : (consume n (accUpdate v f c1 s)).ptr.toNat = s.ptr.toNat + n := by
    rw [hupd]; exact consume_ptr_toNat (by simp only; omega)
  have hrem : (consume n (accUpdate v f c1 s)).rem.toNat = s.rem.toNat - n := by
    rw [hupd]; exact consume_rem_toNat hle
  refine ⟨c1, c2, consume n (accUpdate v f c1 s), rfl, ?_, ⟨?_, ?_, ?_⟩, hptr, hrem, ⟨a, d, ?_⟩, fun hready => ?_⟩
  · rw [engineUnit_of_running hrun, hunit, unitOver, ← hn, h1]
  · rw [hupd]; exact hrun
  · rw [hptr, hrem, ← h2, hupd]
    exact memRead_congr (s := s) (t := consume n { s with acc := a, draws := d }) rfl rfl _ _
  · rw [hptr, hrem]; omega
  · rw [hupd]; rfl
  · rw [accUpdate_of_ready hready, hfold c1 s.acc (memRead_length h1)]; rfl

theorem UnitTaken.unitCount_succ {v : Variant} {s t : State} {c1 c2 : List Byte} (h : UnitTaken v s t c1 c2)
    (h0 : s.rem ≠ 0) : unitCount v s.ptr.toNat s.rem.toNat = unitCount v t.ptr.toNat t.rem.toNat + 1 := by
  rw [h.ptr, h.rem, ← Machine.unitCount_succ v _ (rem_toNat_ne_zero h0)]

theorem UnitTaken.ptr_add_rem {v : Variant} {s t : State} {c1 c2 : List Byte} (h : UnitTaken v s t c1 c2) :
    t.ptr.toNat + t.rem.toNat = s.ptr.toNat + s.rem.toNat := by
  have hle := nextUnitBytes_le v s.ptr.toNat s.rem.toNat
  rw [h.ptr, h.rem]; omega

theorem Pending.eq_nil {v : Variant} {s : State} {c : List Byte} (hp : Pending v s c) (h : s.rem = 0) : c = [] := by
  have := memRead_length hp.answers
  rw [h] at this
  exact List.eq_nil_of_length_eq_zero this

theorem engineUnits_succ {s t : State} (h : engineUnit s = .next t) (n : Nat) :
    engineUnits (n + 1) s = engineUnits n t := by rw [engineUnits, h]

/-- R200: the units of a running command end in its finish, with the whole buffer folded into `ACC`. -/
theorem Pending.finishes {v : Variant} {s : State} {c : List Byte} (hp : Pending v s c)
    (hready : readsTz v = true → TablesReady s) :
    engineUnits (unitCount v s.ptr.toNat s.rem.toNat) s =
      .next (finish (variantFamily v) { s with
        acc := c.foldl (bitwiseByte (polyOf (variantFamily v))) s.acc
        ptr := BitVec.ofNat 33 (s.ptr.toNat + s.rem.toNat), rem := 0 }) := by
  induction hk : unitCount v s.ptr.toNat s.rem.toNat generalizing s c with
  | zero => simp [unitCount] at hk
  | succ k ih =>
    by_cases h0 : s.rem = 0
    · obtain rfl := hp.eq_nil h0
      have hptr : BitVec.ofNat 33 (s.ptr.toNat + s.rem.toNat) = s.ptr := by rw [h0]; simp
      obtain rfl : k = 0 := by
        rw [h0] at hk
        exact Nat.succ.inj (hk.symm.trans (unitCount_zero v _))
      rw [engineUnits_succ ((engineUnit_of_running hp.running).trans (checksumUnit_finish v h0)), hptr, ← h0]
      rfl
    · obtain ⟨c1, c2, t, rfl, ht⟩ := hp.unit h0
      have hcount : unitCount v t.ptr.toNat t.rem.toNat = k := Nat.succ.inj ((ht.unitCount_succ h0).symm.trans hk)
      have hfold := ht.folds hready
      have hrt : readsTz v = true → TablesReady t := fun hv => by rw [hfold]; exact hready hv
      rw [engineUnits_succ ht.unit, ih ht.pending hrt hcount, ht.ptr_add_rem, List.foldl_append, hfold]

/-- R253: before its finish a running command changes nothing but the engine's own registers. -/
theorem Pending.runs {v : Variant} {s : State} {c : List Byte} (hp : Pending v s c) {k : Nat}
    (hk : k < unitCount v s.ptr.toNat s.rem.toNat) :
    ∃ a d p r, engineUnits k s = .next { s with acc := a, draws := d, ptr := p, rem := r } := by
  induction k generalizing s c with
  | zero => exact ⟨s.acc, s.draws, s.ptr, s.rem, rfl⟩
  | succ k ih =>
    have h0 : s.rem ≠ 0 := by
      intro h0
      rw [h0, show (0 : Word).toNat = 0 from rfl, unitCount_zero] at hk
      omega
    obtain ⟨c1, c2, t, -, ht⟩ := hp.unit h0
    obtain ⟨a, d, heng⟩ := ht.engineOnly
    obtain ⟨a', d', p, r, hrun⟩ := ih ht.pending (by rw [ht.unitCount_succ h0] at hk; omega)
    refine ⟨a', d', p, r, ?_⟩
    rw [engineUnits_succ ht.unit, hrun, heng]

/-! ## Whole commands -/

/-- R194: an acceptable command's row is accepted. -/
theorem exec_acceptable {v : Variant} {s : State} (h : Acceptable v s) :
    exec (Command.checksum v).toInstr s = .next (accepted v s) := by
  obtain ⟨hidle, himpl, hrange⟩ := h
  rw [exec_command]
  simp only [requestOf, commandRequest, checkImplemented, hidle, himpl, hrange, if_true, Bool.false_eq_true, if_false]
  rfl

theorem accepted_ptr_toNat (v : Variant) (s : State) : (accepted v s).ptr.toNat = s.srcValue.toNat :=
  BitVec.toNat_setWidth_of_le (by decide)

/-- At its acceptance a command has its whole buffer pending. -/
theorem pending_accepted (v : Variant) {s : State} {bytes : List Byte} (h : BufferHolds s bytes) :
    Pending v (accepted v s) bytes where
  running := ⟨rfl, rfl⟩
  answers := by
    rw [accepted_ptr_toNat]
    exact (memRead_congr (s := s) (t := accepted v s) rfl rfl _ _).trans h
  fits := by
    have hsrc := s.srcValue.isLt
    have hlen := s.len.isLt
    rw [accepted_ptr_toNat, show (accepted v s).rem = s.len from rfl]
    omega

/-- R128, R129: the reference function is the fold between the family's entry and exit forms (R13). -/
theorem refOf_eq (f : Family) (c : Word) (bytes : List Byte) :
    refOf f c bytes = exitValue f (bytes.foldl (bitwiseByte (polyOf f)) (entryValue f c)) := by
  cases f <;> rfl

/-- R131: the checksum of a concatenation is chained through `CRC`. -/
theorem refOf_append (f : Family) (c : Word) (b1 b2 : List Byte) :
    refOf f c (b1 ++ b2) = refOf f (refOf f c b1) b2 := by
  simp only [refOf_eq, entry_exit, List.foldl_append]

/-- R200: a whole command leaves the finished state, with the reference value of its buffer in `CRC`. -/
theorem runCommand_finished {v : Variant} {s : State} {bytes : List Byte} (ha : Acceptable v s)
    (hb : BufferHolds s bytes) (hready : readsTz v = true → TablesReady s) :
    runCommand v s = .next (finished v s bytes) := by
  have hrun := (pending_accepted v hb).finishes hready
  rw [accepted_ptr_toNat, show (accepted v s).rem = s.len from rfl] at hrun
  rw [runCommand, exec_acceptable ha]
  refine hrun.trans (congrArg _ ?_)
  unfold finished
  rw [refOf_eq, entry_exit]
  rfl

/-- Settles O40: the units before the finish change only `ACC`, `PTR`, `REM` and the draws. -/
theorem runningCommandShowsOnlyBusy : Obligations.RunningCommandShowsOnlyBusy := by
  intro v s bytes k _ hb hk
  rw [unitsOf, ← accepted_ptr_toNat v s] at hk
  obtain ⟨a, d, p, r, hrun⟩ := (pending_accepted v hb).runs hk
  exact ⟨_, hrun, rfl, rfl, rfl, rfl, rfl, rfl, rfl, rfl, rfl, rfl⟩

theorem exec_wrSrc_idle {s : State} (v : Word) (h : s.busy = false) : exec (.wrSrc v) s = .next (s.setSrc v) :=
  registerWrite_idle (fun t => t.setSrc v) h

theorem exec_wrLen_idle {s : State} (v : Word) (h : s.busy = false) : exec (.wrLen v) s = .next (s.setLen v) :=
  registerWrite_idle (fun t => t.setLen v) h

/-- Writing the two operands is, for every reader, the register contents they name (R27, R191). -/
theorem operandWrites_srcValue (s : State) (a n : Word) :
    ((s.setSrc a).setLen n).srcValue = ({ s with src := a, len := n } : State).srcValue := setSrc_srcValue s a

/-- Settles O42: the second command takes the first one's result as its carry-in, and what it depends on besides `SRC` and
`LEN` is as before the first. -/
theorem chunksChainThroughCrc : Obligations.ChunksChainThroughCrc := by
  intro v1 v2 s a n b1 b2 hfam htables ha1 hb1 ha2 hb2
  let t := finished v1 s b1
  let w := (t.setSrc a).setLen n
  have hsrc : w.srcValue = ({ s with src := a, len := n } : State).srcValue := operandWrites_srcValue t a n
  have hw : Acceptable v2 w := by
    obtain ⟨-, himpl, hrange⟩ := ha2
    refine ⟨rfl, himpl, ?_⟩
    unfold rangeOk
    rw [hsrc]
    exact hrange
  have hbw : BufferHolds w b2 := by
    unfold BufferHolds
    rw [hsrc]
    exact (memRead_congr (s := { s with src := a, len := n }) (t := w) rfl rfl _ _).trans hb2
  refine ⟨t, t.setSrc a, w, finished v2 w b2, runCommand_finished ha1 hb1 fun h => htables (.inl h),
    exec_wrSrc_idle a rfl, exec_wrLen_idle n rfl, runCommand_finished hw hbw fun h => htables (.inr h), ?_, rfl, rfl⟩
  calc refOf (variantFamily v2) (refOf (variantFamily v1) s.crc b1) b2
      = refOf (variantFamily v1) (refOf (variantFamily v1) s.crc b1) b2 := by rw [hfam]
    _ = refOf (variantFamily v1) s.crc (b1 ++ b2) := (refOf_append _ _ _ _).symm

end Sys2Proof.Machine
end

section
namespace Sys2Proof.Machine

/-! ## The dispatch of a step (R68, R70, R192) -/

/-- A step with something scheduled takes it off the schedule and performs it (R202). -/
theorem step_scheduled {s : State} {i : Input} {rest : List Input} (h : s.inputs = i :: rest) :
    step s = runInput i { s with inputs := rest } := by
  simp only [step, h]

theorem instrOf_of_decode_ok {t : Transfer} {i : Instr} (h : decode t = .ok i) : instrOf t = i := by
  cases t <;> simp only [instrOf, h]

theorem instrOf_of_decode_error {w : Word} {e : DecodeError} (h : decode (.command w) = .error e) :
    instrOf (.command w) = .wrCmd w := by
  simp only [instrOf, h]

/-- A table word that is read as an instruction is the transfer that decodes to it. -/
theorem decode_of_decodeTableWord {nbits w : Nat} {i : Instr} (h : decodeTableWord nbits w = some i) :
    decode (tableTransfer nbits w) = .ok i := by
  unfold decodeTableWord at h
  split at h
  · contradiction
  · split at h
    next j hj => cases h; exact hj
    · contradiction

/-- Settles O9: the head of the schedule is run as `instrOf` reads it. -/
theorem stepRunsTheDecodedInstruction : Obligations.StepRunsTheDecodedInstruction := by
  refine ⟨fun s t rest i hs hd => ?_, fun s w rest e hs hd => ?_, fun s nbits w i hd => ?_⟩
  · rw [step_scheduled hs, runInput, instrOf_of_decode_ok hd]
  · rw [step_scheduled hs, runInput, instrOf_of_decode_error hd]
  · have hs : (s.withFetchWord nbits w).inputs = .transfer (tableTransfer nbits w) :: s.inputs := rfl
    rw [step_scheduled hs, runInput, instrOf_of_decode_ok (decode_of_decodeTableWord hd)]
    rfl

/-! ## Lane words (R52, R53) -/

/-- Settles O30: the adapter undoes the byte order of the bus, and the lanes of the assembled word are its bytes. -/
theorem laneWordsIgnoreTheByteOrder : Obligations.LaneWordsIgnoreTheByteOrder := by
  intro bigEndian b0 b1 b2 b3
  have hword := laneWord_eq_word bigEndian b0 b1 b2 b3
  obtain ⟨h0, h1, h2, h3⟩ := lane_word b0 b1 b2 b3
  refine ⟨hword, ?_⟩
  rw [hword]
  calc (List.range 4).map (lane (word b0 b1 b2 b3))
      = [lane (word b0 b1 b2 b3) 0, lane (word b0 b1 b2 b3) 1, lane (word b0 b1 b2 b3) 2, lane (word b0 b1 b2 b3) 3] := rfl
    _ = [b0, b1, b2, b3] := by rw [h0, h1, h2, h3]

/-! ## The writer of the host data space (R50, R61) -/

/-- No host transaction writes the host data space. -/
theorem HostEffect.keeps_mem {i : Instr} {s t : State} (e : HostEffect i s t) : t.mem = s.mem := by
  cases e with
  | accepted c _ _ _ => cases c <;> rfl
  | _ => rfl

/-- No engine unit writes the host data space (R56). -/
theorem EngineEffect.keeps_mem {s t : State} (e : EngineEffect s t) : t.mem = s.mem := by
  cases e <;> rfl

/-- A step keeps the host data space, or is a host write to it. -/
theorem step_mem {s t : State} (h : step s = .next t) :
    t.mem = s.mem ∨ ∃ a b rest, s.inputs = .memWrite a b :: rest ∧ t.mem = s.mem.write a b := by
  cases step_cases h with
  | host x rest t _ e => exact .inl e.keeps_mem
  | engineTurn rest t _ e => exact .inl e.keeps_mem
  | engineAlone t _ e => exact .inl e.keeps_mem
  | reset rest _ => exact .inl rfl
  | memWrite a b rest hi _ _ => exact .inr ⟨a, b, rest, hi, rfl⟩

/-- Settles O50: of all steps only a host write changes a byte, and a write leaves every other address alone. -/
theorem onlyTheHostWritesItsMemory : Obligations.OnlyTheHostWritesItsMemory := by
  intro s t a hstep hne
  obtain hmem | ⟨a', b, rest, hi, hmem⟩ := step_mem hstep
  · exact absurd (by rw [hmem]) hne
  · obtain rfl | ha := eq_or_ne a a'
    · exact ⟨b, rest, hi, by rw [hmem, Memory.read_write_same]⟩
    · exact absurd (by rw [hmem, Memory.read_write_other _ _ _ _ ha]) hne

/-! ## The buffer while busy (R61) -/

theorem busy_inBuffer_iff (s : State) (a : Nat) :
    (s.busy && inBuffer s a) = true ↔
      s.busy = true ∧ s.srcValue.toNat ≤ a ∧ a < s.srcValue.toNat + s.len.toNat := by
  simp [inBuffer]

/-- A scheduled host write inside the space is refused when it hits the buffer of a running command, and lands otherwise. -/
theorem step_memWrite {s : State} {a : Nat} {b : Byte} {rest : List Input} (hi : s.inputs = .memWrite a b :: rest)
    (ha : a < s.cfg.spaceSize) :
    step s = if (s.busy && inBuffer s a) = true then .refused .bufferWriteWhileBusy
      else .next { s with inputs := rest, mem := s.mem.write a b } := by
  rw [step_scheduled hi, runInput, hostMemWrite, if_neg (Nat.not_le.2 ha)]
  rfl

/-- Settles O51: the test of a host write is that of R61, and a write that passes it changes its own byte only. -/
theorem bufferIsStableWhileBusy : Obligations.BufferIsStableWhileBusy := by
  intro s a b rest hi ha
  have hstep := step_memWrite hi ha
  split
  case isTrue hbuf => rw [hstep, if_pos ((busy_inBuffer_iff s a).2 hbuf)]
  case isFalse hbuf =>
    rw [if_neg (mt (busy_inBuffer_iff s a).1 hbuf)] at hstep
    exact ⟨_, hstep, Memory.read_write_same _ _ _, fun a' ha' => Memory.read_write_other _ _ _ _ ha'⟩

end Sys2Proof.Machine
end

section
namespace Sys2Proof.Machine

/-! ## Decode and encode agree (R72, R80, R81) -/

/-- Every instruction obeys the law of its row. -/
theorem decode_encode (i : Instr) : Laws.RoundTrip.Statement i := by
  cases i <;> rfl

/-- The encoder gives a command's row the command's word (R72). -/
theorem encode_toInstr (c : Command) : encode c.toInstr = .command (encodeWord c) := by
  cases c with
  | initTables => rfl
  | checksum v => cases v <;> rfl

/-- A command word is decoded to a row only if it is a command's word, and then to that command's row. -/
theorem decode_command_ok {w : Word} {i : Instr} (h : decode (.command w) = .ok i) :
    ∃ c : Command, w = encodeWord c ∧ i = c.toInstr := by
  simp only [decode] at h
  split at h
  next c hc =>
    cases h
    exact ⟨c, decodeWord_ok hc, rfl⟩
  · contradiction

/-- The row of a read is sent as its index, with WE = 0 and nothing on the data lines (R80). -/
theorem encode_readInstr (idx : BitVec 6) : encode (readInstr idx) = .bus (BitVec.ofNat 7 idx.toNat) 0 := by
  have hlt := idx.isLt
  unfold readInstr
  generalize idx.toNat = n at hlt
  interval_cases n <;> rfl

/-- The row of a write is sent as its index, with WE = 1 and its data word (R80). -/
theorem encode_writeInstr (idx : BitVec 6) (v : Word) :
    encode (writeInstr idx v) = .bus (BitVec.ofNat 7 (0x40 + idx.toNat)) v := by
  have hlt := idx.isLt
  unfold writeInstr
  generalize idx.toNat = n at hlt
  interval_cases n <;> rfl

/-- A descriptor is its two fields, WE in bit 6 and IDX below it (R80). -/
theorem descriptor_eq_fields :
    ∀ d : Descriptor, d = BitVec.ofNat 7 ((if d.getLsbD 6 then 0x40 else 0) + (d.setWidth 6).toNat) := by
  decide

/-- Encoding undoes the bus decoder, but for the data lines of a read. -/
theorem encode_decodeBus (d : Descriptor) (v : Word) :
    encode (decodeBus d v) = .bus d (if d.getLsbD 6 then v else 0) := by
  have hd := descriptor_eq_fields d
  unfold decodeBus
  split at hd
  case isTrue hwe => rw [if_pos hwe, if_pos hwe, encode_writeInstr, ← hd]
  case isFalse hwe => rw [if_neg hwe, if_neg hwe, encode_readInstr, ← Nat.zero_add (d.setWidth 6).toNat, ← hd]

/-- Settles O6: each format is decoded by field, and the encoder puts the same fields back. -/
theorem decodeAndEncodeAgree : Obligations.DecodeAndEncodeAgree := by
  refine ⟨decode_encode, fun w i h => ?_, fun d v => ⟨rfl, encode_decodeBus d v⟩⟩
  obtain ⟨c, rfl, rfl⟩ := decode_command_ok h
  exact encode_toInstr c

/-! ## The legal words of a build (R76, R81) -/

/-- A build passes the commands it implements; `INIT_TABLES` is one of every build. -/
theorem checkImplemented_of_legal {l : List Variant} {c : Command} (h : c = .initTables ∨ ∃ v ∈ l, c = .checksum v) :
    checkImplemented l c = .ok c := by
  obtain rfl | ⟨v, hv, rfl⟩ := h
  · rfl
  · exact if_pos hv

/-- A build reads a command's word as its check of that command says. -/
theorem decodeCommand_encodeWord (l : List Variant) (c : Command) :
    decodeCommand l (encodeWord c) = checkImplemented l c := by
  simp only [decodeCommand, decodeWord_encodeWord]

/-- Settles O7: the word is fixed by the opcode map, the command by the build. -/
theorem legalWordsAreTheOpcodeMap : Obligations.LegalWordsAreTheOpcodeMap := by
  intro implemented w c
  constructor
  · intro h
    obtain ⟨hw, hlegal⟩ := decodeCommand_ok h
    exact ⟨decodeWord_ok hw, hlegal⟩
  · rintro ⟨rfl, hlegal⟩
    rw [decodeCommand_encodeWord, checkImplemented_of_legal hlegal]

/-! ## Words of the encoding tables (R72, R80) -/

/-- Settles O8: each word is run through the decoder. -/
theorem writtenOutWordsDecode : Obligations.WrittenOutWordsDecode := by
  unfold Obligations.WrittenOutWordsDecode
  decide

end Sys2Proof.Machine
end

section
namespace Sys2Proof.Machine

/-! ## The recurrence of the table levels (R101, R102, R108) -/

/-- The byte mask of the recurrence takes the low byte of a word. -/
theorem setWidth_and_byteMask (x : Word) : ((x &&& 0xFF).setWidth 8 : Byte) = x.setWidth 8 := by
  rw [BitVec.setWidth_and]
  exact BitVec.and_allOnes (w := 8)

/-- R101: level 0 of a served table set is eight bit iterations of the index. -/
theorem ServesLevels.level_zero {t : Table} {p : Word} {n : Nat} (ht : ServesLevels t p n) (hn : 0 < n) (i : Byte) :
    t 0 i = iterate (bitstep p) 8 (i.setWidth 32) := ht 0 hn i

/-- R102: each further level of a served table set is the zero step of the level below it. -/
theorem ServesLevels.level_recurrence {t : Table} {p : Word} {n : Nat} (ht : ServesLevels t p n) {j : Nat} (hj : 1 ≤ j)
    (hn : j < n) (i : Byte) :
    t j i = (t (j - 1) i >>> 8) ^^^ t 0 (((t (j - 1) i) &&& 0xFF).setWidth 8) := by
  obtain ⟨k, rfl⟩ := Nat.exists_eq_add_of_le' hj
  rw [setWidth_and_byteMask, Nat.add_sub_cancel, ht 0 (by omega), ht k (by omega), ht (k + 1) hn]
  rfl

/-- Settles O22: the built RAM serves 16 levels of the zlib polynomial. -/
theorem tablesFollowTheRecurrence : Obligations.TablesFollowTheRecurrence :=
  ⟨builtTables_serves.level_zero (by decide),
    fun _ i hj hj15 => builtTables_serves.level_recurrence hj (Nat.lt_succ_of_le hj15) i⟩

/-- Settles O23: the ROM serves the levels of the Castagnoli polynomial. -/
theorem romFollowsTheRecurrence : Obligations.RomFollowsTheRecurrence :=
  ⟨(tcRead_serves 12).level_zero (by decide),
    fun _ i hj hj11 => (tcRead_serves 12).level_recurrence hj (Nat.lt_succ_of_le hj11) i⟩

/-! ## What a level means (R105) -/

/-- From a zero accumulator the byte step is the level-0 lookup of its datum (R123). -/
theorem byteAtOnce_zero_acc (t : Table) (d : Byte) : byteAtOnce t 0 d = t 0 d := by
  simp [byteAtOnce]

/-- With a zero datum the byte step is the zero step (R105, R123). -/
theorem byteAtOnce_zero_datum (t : Table) (acc : Word) : byteAtOnce t acc 0 = zeroStep (t 0) acc := by
  simp [byteAtOnce, zeroStep]

/-- Each zero byte that follows a byte takes its fold one level up. -/
theorem tableEntry_eq_foldl (p : Word) (j : Nat) (i : Byte) :
    tableEntry p j i = (i :: List.replicate j 0).foldl (byteAtOnce (tableEntry p)) 0 := by
  induction j with
  | zero => exact (byteAtOnce_zero_acc (tableEntry p) i).symm
  | succ j ih =>
    rw [List.replicate_succ', ← List.cons_append, List.foldl_append, ← ih]
    exact (byteAtOnce_zero_datum (tableEntry p) (tableEntry p j i)).symm

/-- Every level is a power of the bit iteration, and so linear. -/
theorem tableEntry_xor (p : Word) (j : Nat) (i k : Byte) :
    tableEntry p j (i ^^^ k) = tableEntry p j i ^^^ tableEntry p j k := by
  simp only [tableEntry_eq_iterate, BitVec.setWidth_xor, iterate_bitstep_xor]

/-- Zero is a fixed point of the bit iteration. -/
theorem tableEntry_zero (p : Word) (j : Nat) : tableEntry p j 0 = 0 := by
  rw [tableEntry_eq_iterate]
  exact iterate_bitstep_zero p _

/-- Settles O24, for every polynomial and every level. -/
theorem levelsAreLinearRemainders : Obligations.LevelsAreLinearRemainders := fun p j i k =>
  ⟨tableEntry_eq_foldl p j i, tableEntry_zero p j, tableEntry_xor p j i k⟩

/-! ## The half-byte table (R104) -/

/-- R104: the first four bit iterations shift the nibble down into place, and four more are left. -/
theorem level0_high_nibble (p : Word) {j : Nat} (hj : j < 16) :
    level0 p (BitVec.ofNat 8 (j * 16)) = iterate (bitstep p) 4 (BitVec.ofNat 32 j) := by
  have hshift : (BitVec.ofNat 8 (j * 16)).setWidth 32 = BitVec.ofNat 32 j <<< 4 := by
    apply BitVec.eq_of_toNat_eq
    rw [BitVec.toNat_setWidth, BitVec.toNat_shiftLeft, BitVec.toNat_ofNat, BitVec.toNat_ofNat, Nat.shiftLeft_eq]
    omega
  have hlossless : (BitVec.ofNat 32 j <<< 4) >>> 4 = BitVec.ofNat 32 j := by
    apply BitVec.eq_of_toNat_eq
    rw [BitVec.toNat_ushiftRight, BitVec.toNat_shiftLeft, BitVec.toNat_ofNat, Nat.shiftLeft_eq, Nat.shiftRight_eq_div_pow]
    omega
  rw [level0, hshift, iterate_add _ 4 4, iterate_bitstep_shiftLeft _ _ _ hlossless]

/-- The half-byte table in the built RAM. -/
theorem tzRead_builtTables_high_nibble {j : Nat} (hj : j < 16) :
    tzRead builtTables 0 (BitVec.ofNat 8 (j * 16)) = iterate (bitstep polyZlib) 4 (BitVec.ofNat 32 j) :=
  (builtTables_serves 0 (by decide) _).trans (level0_high_nibble polyZlib hj)

/-- Settles O25: the 16 values are run from the four-step form. -/
theorem halfByteTableIsLevelZero : Obligations.HalfByteTableIsLevelZero := by
  refine ⟨fun j => tzRead_builtTables_high_nibble j.isLt, ?_⟩
  rw [List.map_congr_left fun j hj => tzRead_builtTables_high_nibble (List.mem_range.1 hj)]
  decide

/-! ## The table build (R106, R107) -/

/-- R194: an idle machine accepts `INIT_TABLES`. -/
theorem exec_initTables_idle {s : State} (h : s.busy = false) :
    exec .initTables s = .next (accept .initTables s) := by
  refine (exec_command .initTables s).trans ?_
  simp only [requestOf, commandRequest, checkImplemented, h, Bool.false_eq_true, if_false]

/-- In PHASE = INIT the engine's unit is the table build (R197). -/
theorem engineUnit_of_init {s : State} (h : s.phase = .init) : engineUnit s = unitInitTables s := by
  simp only [engineUnit, h]

/-- Settles O20: the request is accepted, and the unit of PHASE = INIT is the table build and the finish. -/
theorem initTablesBuildsTheTables : Obligations.InitTablesBuildsTheTables := fun s hidle =>
  ⟨accept .initTables s, exec_initTables_idle hidle, engineUnit_of_init rfl⟩

/-- Whatever the machine holds, the table build leaves the same `T_Z` (R107). -/
theorem tz_of_tableBuild {s t : State} (h : s.phase = .init) (hunit : engineUnit s = .next t) : t.tz = builtTables := by
  rw [engineUnit_of_init h] at hunit
  cases hunit
  rfl

/-- Settles O21: both units write the same contents. -/
theorem rebuildGivesTheSameTables : Obligations.RebuildGivesTheSameTables := fun _ _ _ _ h h' hunit hunit' =>
  (tz_of_tableBuild h hunit).trans (tz_of_tableBuild h' hunit').symm

end Sys2Proof.Machine
end

section
namespace Sys2Proof.Machine

/-! ## The reference engines (spec/41_reference_engines.md) -/

/-- R200: an acceptable command is accepted by its row, and its units end in the finished state. -/
theorem acceptable_command_finishes {v : Variant} {s : State} {bytes : List Byte} (ha : Acceptable v s)
    (hb : BufferHolds s bytes) (hready : readsTz v = true → TablesReady s) :
    ∃ t : State, exec (Command.checksum v).toInstr s = .next t ∧
      engineUnits (unitsOf v s) t = .next (finished v s bytes) := by
  have hrun := runCommand_finished ha hb hready
  rw [runCommand, exec_acceptable ha] at hrun
  exact ⟨accepted v s, exec_acceptable ha, hrun⟩

/-- Settles O36: the finished state of a zlib command holds `ref_Z` in `CRC`. -/
theorem zlibCommandsReturnTheReference : Obligations.ZlibCommandsReturnTheReference := by
  intro v s bytes hf ha hb hready
  have hcrc : (finished v s bytes).crc = refZlib s.crc bytes := by rw [finished, hf]; rfl
  rw [← hcrc]
  exact acceptable_command_finishes ha hb hready

/-- Settles O27: each unit is the family's bitwise unit, over tables whose level 0 is that of the family's polynomial. -/
theorem byteUnitsAgree : Obligations.ByteUnitsAgree := by
  intro acc d
  have hhalf : halfByte (tzRead builtTables) = bitwiseByte polyZlib :=
    halfByte_eq_bitwiseByte builtTables_serves (by decide)
  have hbyte : byteAtOnce (tzRead builtTables) = bitwiseByte polyZlib :=
    byteAtOnce_eq_bitwiseByte builtTables_serves (by decide)
  have hrom : byteAtOnce tcRead = bitwiseByte polyCastagnoli :=
    byteAtOnce_eq_bitwiseByte (tcRead_serves 1) Nat.one_pos
  rw [hhalf, hbyte, hrom]
  exact ⟨rfl, rfl, rfl⟩

/-- Settles O26: the mask `-(c & 1)` selects the polynomial exactly when bit 0 is set. -/
theorem branchFreeStepIsTheBitStep : Obligations.BranchFreeStepIsTheBitStep := bitstepMask_eq_bitstep

/-- R130: over no bytes the reference function gives its carry-in back. -/
theorem refOf_nil (f : Family) (c : Word) : refOf f c [] = c := by
  rw [refOf_eq, List.foldl_nil, exit_entry]

/-- Settles O31: the carry-in of the second chunk is the accumulator the first one left, taken through exit and entry. -/
theorem referenceFunctionsChain : Obligations.ReferenceFunctionsChain := fun f c s1 s2 =>
  ⟨refOf_nil f c, refOf_append f c s1 s2⟩

end Sys2Proof.Machine
end

section
namespace Sys2Proof.Machine

/-! ## The slicing base block (R142, R143) -/

/-- R143: over tables that serve the block's depth, the base block step of `m` lane words is the byte-serial fold. -/
theorem blockStep_laneWords_eq_foldl {t : Table} {p : Word} {n m : Nat} (ht : ServesLevels t p n) (hm : 0 < m)
    (hn : 4 * m ≤ n) (bigEndian : Bool) (acc : Word) {c : List Byte} (hc : c.length = 4 * m) :
    blockStep t c.length acc (laneWords bigEndian c) = c.foldl (byteAtOnce t) acc := by
  obtain ⟨hwords, hfold⟩ := foldl_laneWords bigEndian p m c hc acc
  have hblock := blockStep_eq_foldl ht (List.ne_nil_of_length_pos (hwords ▸ hm)) (hwords.symm ▸ hn) acc
  rw [hwords, ← hc] at hblock
  rw [hblock, hfold, byteAtOnce_eq_bitwiseByte ht (by omega)]

/-- The block depths of the slicing commands are whole words, 16 bytes at most (R142). -/
theorem blockDepth_words {d : Nat} (h : d ∈ [4, 8, 16]) : ∃ m, 0 < m ∧ 4 * m ≤ 16 ∧ d = 4 * m := by
  simp only [List.mem_cons, List.not_mem_nil, or_false] at h
  exact ⟨d / 4, by omega⟩

/-- Settles O28: the built RAM serves 16 levels, the ROM every level a block reads. -/
theorem blockStepIsTheByteFold : Obligations.BlockStepIsTheByteFold := by
  intro bigEndian acc c
  constructor
  · intro hdepth
    obtain ⟨m, hm, hm16, hc⟩ := blockDepth_words hdepth
    exact blockStep_laneWords_eq_foldl builtTables_serves hm hm16 bigEndian acc hc
  · intro hdepth
    have hsub : [4, 8] ⊆ [4, 8, 16] := by decide
    obtain ⟨m, hm, -, hc⟩ := blockDepth_words (hsub hdepth)
    exact blockStep_laneWords_eq_foldl (tcRead_serves (4 * m)) hm le_rfl bigEndian acc hc

/-! ## Zero length (R130, R147, R179) -/

/-- R193: an empty buffer is in range at every `SRC`, whose bits above the address width read as zero. -/
theorem rangeOk_of_len_zero {s : State} (h : s.len = 0) : rangeOk s = true := by
  have hsrc : s.srcValue.toNat < 2 ^ s.cfg.addrWidth := by
    rw [srcValue_toNat]
    exact Nat.mod_lt _ (Nat.two_pow_pos _)
  rw [rangeOk_iff, h]
  exact hsrc.le

/-- R147, R179: the first unit after the acceptance of a zero-length command is its finish. -/
theorem engineUnit_accepted_of_len_zero (v : Variant) {s : State} (h : s.len = 0) :
    engineUnit (accepted v s) = .next (finish (variantFamily v) (accepted v s)) :=
  (engineUnit_of_running ⟨rfl, rfl⟩).trans (checksumUnit_finish v h)

/-- R130: a finish straight after acceptance takes the carry-in through entry and exit and so gives it back. -/
theorem finish_accepted_crc (v : Variant) (s : State) : (finish (variantFamily v) (accepted v s)).crc = s.crc :=
  exit_entry (variantFamily v) s.crc

/-- Settles O38: the one unit is the finish, which reads neither memory nor tables. -/
theorem zeroLengthLeavesTheChecksum : Obligations.ZeroLengthLeavesTheChecksum := by
  intro v s hidle himpl hlen
  have haccept : exec (Command.checksum v).toInstr s = .next (accepted v s) :=
    exec_acceptable ⟨hidle, himpl, rangeOk_of_len_zero hlen⟩
  have hunits : engineUnits 1 (accepted v s) = .next (finish (variantFamily v) (accepted v s)) :=
    engineUnits_succ (engineUnit_accepted_of_len_zero v hlen) 0
  exact ⟨_, _, haccept, hunits, finish_accepted_crc v s, rfl, rfl, rfl, rfl, rfl⟩

end Sys2Proof.Machine
end

section
namespace Sys2Proof.Machine

/-! ## The Castagnoli commands (spec/43_slicing_crc32c.md) -/

/-- R171, R173, R175: a Castagnoli command reads only the ROM, so it asks nothing of the zlib table RAM. -/
theorem readsTz_castagnoli {v : Variant} (hf : variantFamily v = .castagnoli) : readsTz v = false := by
  simp [readsTz, hf]

/-- Settles O37: the finished state of a Castagnoli command, which needs no built table, holds `ref_C` in `CRC`. -/
theorem castagnoliCommandsReturnTheReference : Obligations.CastagnoliCommandsReturnTheReference := by
  intro v s bytes hf ha hb
  have hcrc : (finished v s bytes).crc = refCastagnoli s.crc bytes := by rw [finished, hf]; rfl
  have hready : readsTz v = true → TablesReady s := fun hr => by simp [readsTz_castagnoli hf] at hr
  rw [← hcrc]
  exact acceptable_command_finishes ha hb hready

/-- R174, R176: over the ROM, any number of base blocks of `m` words has the value of the byte-serial fold. -/
theorem iteration_tcRead_eq_foldl {m : Nat} (hm : 0 < m) (bigEndian : Bool) (unroll : Nat) (acc : Word) {c : List Byte}
    (hc : c.length = unroll * (4 * m)) :
    iteration bigEndian tcRead (4 * m) unroll acc c = c.foldl (byteAtOnce tcRead) acc := by
  rw [iteration_eq_foldl (tcRead_serves (4 * m)) hm le_rfl bigEndian unroll acc c hc,
    byteAtOnce_eq_bitwiseByte (tcRead_serves 1) Nat.one_pos]

/-- Settles O29: base blocks of 4 or 8 bytes are whole words, and the fold does not see where one ends and the next begins. -/
theorem wideDecompositionsAgree : Obligations.WideDecompositionsAgree := by
  intro bigEndian acc c depth unroll hdepth hlen _
  have hsub : [4, 8] ⊆ [4, 8, 16] := by decide
  obtain ⟨m, hm, -, rfl⟩ := blockDepth_words (hsub hdepth)
  exact iteration_tcRead_eq_foldl hm bigEndian unroll acc hlen.symm

end Sys2Proof.Machine
end

section
namespace Sys2Proof.Machine

/-! ## The unit of a running command, by the answer of the memory (R197, R201) -/

theorem unitOver_of_data {n : Nat} {s : State} {c : List Byte} (h : memRead s s.ptr.toNat n = .data c)
    (update : List Byte → State → State) : unitOver n update s = .next (consume n (update c s)) := by
  rw [unitOver, h]

theorem unitOver_of_noAnswer {n : Nat} {s : State} (h : memRead s s.ptr.toNat n = .noAnswer)
    (update : List Byte → State → State) : unitOver n update s = .next s := by
  rw [unitOver, h]

/-- A command with bytes to go reads at least one in its next unit. -/
theorem nextUnitBytes_pos (v : Variant) (a : Nat) {r : Nat} (h : r ≠ 0) : 1 ≤ nextUnitBytes v a r := by
  have hb := iterationSize_pos v
  cases hf : variantFamily v
  case zlib => rw [nextUnitBytes_zlib hf a h]; split <;> omega
  case castagnoli => rw [nextUnitBytes_castagnoli hf a h]; split <;> [omega; split <;> omega]

/-- Settles O32: the unit's datapath is the byte-serial fold, and the tables it reads are in place. -/
theorem unitsFoldTheirBytes : Obligations.UnitsFoldTheirBytes := by
  intro v s c hrun h0 hready hread
  have hlen := memRead_length hread
  obtain ⟨f, hfold, hunit⟩ := checksumUnit_folds v h0
  rw [engineUnit_of_running hrun, hunit, unitOver_of_data hread, accUpdate_of_ready hready, hfold c s.acc hlen, hlen]
  rfl

/-- Settles O35: a read that is not answered is no finish, and leaves the state to the next attempt. -/
theorem unansweredReadStallsTheEngine : Obligations.UnansweredReadStallsTheEngine := by
  intro v s hrun hread
  have h0 : s.rem ≠ 0 := by
    intro h0
    simp [h0, nextUnitBytes] at hread
  obtain ⟨f, -, hunit⟩ := checksumUnit_folds v h0
  rw [engineUnit_of_running hrun, hunit, unitOver_of_noAnswer hread]

theorem exitValue_eq_ite (f : Family) (a : Word) : exitValue f a = if f = .zlib then ~~~a else a := by
  cases f <;> rfl

/-- R199: the running command with REM = 0 finishes. -/
theorem engineUnit_finish {v : Variant} {s : State} (h : Running v s) (h0 : s.rem = 0) :
    engineUnit s = .next (finish (variantFamily v) s) :=
  (engineUnit_of_running h).trans (checksumUnit_finish v h0)

/-- Settles O33: the finish puts the exit form of `ACC` in `CRC` and clears the command. -/
theorem finishWritesTheResult : Obligations.FinishWritesTheResult := by
  intro v s hrun h0
  rw [engineUnit_finish hrun h0, ← exitValue_eq_ite]
  rfl

/-! ## A running command ends (R201) -/

/-- While every address answers, a reading unit leaves the command running with less to read, or aborts it. -/
theorem Running.readingUnit {v : Variant} {s : State} (h : Running v s) (hs : s.silent = []) (h0 : s.rem ≠ 0) :
    (∃ t, engineUnit s = .next t ∧ Running v t ∧ t.silent = [] ∧ t.rem.toNat < s.rem.toNat) ∨
    engineUnit s = .next (abort s) := by
  have hle := nextUnitBytes_le v s.ptr.toNat s.rem.toNat
  have hpos := nextUnitBytes_pos v s.ptr.toNat (rem_toNat_ne_zero h0)
  obtain ⟨f, -, hunit⟩ := checksumUnit_folds v h0
  rw [engineUnit_of_running h, hunit]
  obtain ⟨c, -, ho⟩ | ⟨-, ho⟩ | ⟨hno, -⟩ := unitOver_cases (nextUnitBytes v s.ptr.toNat s.rem.toNat) (accUpdate v f) s
  · obtain ⟨a, d, hupd⟩ := accUpdate_touches v f c s
    rw [hupd] at ho
    exact .inl ⟨_, ho, h, hs, (consume_rem_toNat hle).trans_lt (Nat.sub_lt_of_pos_le hpos hle)⟩
  · exact .inr ho
  · exact absurd hno (memRead_answers hs _ _)

/-- R201: a running checksum takes at most REM reading units and its last one. -/
theorem Running.ends {v : Variant} {s : State} (h : Running v s) (hs : s.silent = []) :
    ∃ n t, n ≤ s.rem.toNat + 1 ∧ engineUnits n s = .next t ∧ t.busy = false ∧ t.phase = .idle := by
  induction hr : s.rem.toNat using Nat.strong_induction_on generalizing s with
  | h r ih =>
    by_cases h0 : s.rem = 0
    · exact ⟨1, _, Nat.le_add_left 1 r, engineUnits_succ (engineUnit_finish h h0) 0, rfl, rfl⟩
    · obtain ⟨t, hunit, hrun, hsilent, hlt⟩ | habort := h.readingUnit hs h0
      · obtain ⟨n, u, hn, hunits, hend⟩ := ih _ (hr ▸ hlt) hrun hsilent rfl
        exact ⟨n + 1, u, by omega, (engineUnits_succ hunit n).trans hunits, hend⟩
      · exact ⟨1, _, Nat.le_add_left 1 r, engineUnits_succ habort 0, rfl, rfl⟩

/-- Settles O41: BUSY means that the table build or a checksum is running, and each ends. -/
theorem everyCommandEnds : Obligations.EveryCommandEnds := by
  intro s hinv hbusy hsilent
  cases hp : s.phase with
  | idle => exact absurd hp (hinv.busyIff.1 hbusy)
  | init => exact ⟨1, _, by simp, engineUnits_succ (engineUnit_of_init hp) 0, rfl, rfl⟩
  | run =>
    obtain ⟨v, -, hopl⟩ := hinv.runOpcode hp
    simpa using Running.ends ⟨hp, hopl⟩ hsilent

/-! ## The units to go of a running command (R200, R201) -/

/-- The units a running command with its buffer pending has to go: reading units, and the finish. -/
inductive UnitsLeft (v : Variant) : State → Nat → Prop where
  | last (s : State) (run : Running v s) (zero : s.rem = 0) : UnitsLeft v s 1
  | unit (s t : State) (c c1 c2 : List Byte) (n : Nat) (pending : Pending v s c) (nonzero : s.rem ≠ 0)
      (taken : UnitTaken v s t c1 c2) (rest : UnitsLeft v t n) : UnitsLeft v s (n + 1)

/-- R201: there are as many of them as the unit count says. -/
theorem Pending.unitsLeft {v : Variant} {s : State} {c : List Byte} (hp : Pending v s c) :
    UnitsLeft v s (unitCount v s.ptr.toNat s.rem.toNat) := by
  induction hk : unitCount v s.ptr.toNat s.rem.toNat generalizing s c with
  | zero => simp [unitCount] at hk
  | succ k ih =>
    by_cases h0 : s.rem = 0
    · obtain rfl : k = 0 := by
        rw [h0] at hk
        exact Nat.succ.inj (hk.symm.trans (unitCount_zero v _))
      exact .last s hp.running h0
    · obtain ⟨c1, c2, t, -, ht⟩ := hp.unit h0
      exact .unit s t _ c1 c2 k hp h0 ht (ih ht.pending (Nat.succ.inj ((ht.unitCount_succ h0).symm.trans hk)))

/-! ## Tables that are not built (R198) -/

theorem accUpdate_of_unbuilt {v : Variant} {s : State} (hr : readsTz v = true) (hv : s.tblValid = false)
    (f : List Byte → Table → Word → Word) (c : List Byte) :
    accUpdate v f c s = { s with acc := Config.freeWord s.draws, draws := s.draws + 1 } := by
  simp [accUpdate_of_readsTz hr, updateAccFromTz, hv]

/-- The next unit of a command whose buffer is pending is answered. -/
theorem Pending.nextUnit_answers {v : Variant} {s : State} {c : List Byte} (hp : Pending v s c) :
    ∃ c1, memRead s s.ptr.toNat (nextUnitBytes v s.ptr.toNat s.rem.toNat) = .data c1 := by
  have hle := nextUnitBytes_le v s.ptr.toNat s.rem.toNat
  obtain ⟨c1, -, h1, -⟩ := memRead_add (s := s) (c := c) (by rw [Nat.add_sub_cancel' hle]; exact hp.answers)
  exact ⟨c1, h1⟩

/-- R198: while TBL_VALID = 0 a reading unit of a command that reads `T_Z` draws `ACC`. -/
theorem UnitTaken.draws {v : Variant} {s t : State} {c c1 c2 : List Byte} (ht : UnitTaken v s t c1 c2)
    (hp : Pending v s c) (h0 : s.rem ≠ 0) (hr : readsTz v = true) (hv : s.tblValid = false) :
    t = { s with acc := Config.freeWord s.draws, draws := s.draws + 1, ptr := t.ptr, rem := t.rem } := by
  obtain ⟨b, hread⟩ := hp.nextUnit_answers
  obtain ⟨f, -, hunit⟩ := checksumUnit_folds v h0
  have hstep := ht.unit
  rw [engineUnit_of_running hp.running, hunit, unitOver_of_data hread, accUpdate_of_unbuilt hr hv]
    at hstep
  cases hstep
  rfl

/-- R198: over unbuilt tables the units end in the finish of the last draw, one draw to each reading unit. -/
theorem UnitsLeft.finishes_drawn {v : Variant} {s : State} {n : Nat} (h : UnitsLeft v s n) (hr : readsTz v = true)
    (hv : s.tblValid = false) (hacc : s.rem = 0 → s.acc = Config.freeWord (s.draws - 1)) :
    engineUnits n s = .next (finish (variantFamily v) { s with
      acc := Config.freeWord (s.draws + n - 2), draws := s.draws + n - 1
      ptr := BitVec.ofNat 33 (s.ptr.toNat + s.rem.toNat), rem := 0 }) := by
  induction h with
  | last s run zero =>
    have hptr : BitVec.ofNat 33 (s.ptr.toNat + s.rem.toNat) = s.ptr := by rw [zero]; simp
    have hs : s = { s with
        acc := Config.freeWord (s.draws - 1), ptr := BitVec.ofNat 33 (s.ptr.toNat + s.rem.toNat), rem := 0 } := by
      rw [hptr, ← hacc zero, ← zero]
    exact (engineUnits_succ (engineUnit_finish run zero) 0).trans (congrArg (Host.Outcome.next ∘ finish _) hs)
  | unit s t _ _ _ n pending nonzero taken _ ih =>
    have hdraw := taken.draws pending nonzero hr hv
    have hd : t.draws = s.draws + 1 := by rw [hdraw]
    rw [engineUnits_succ taken.unit, ih (by rw [hdraw]; exact hv) (fun _ => by rw [hdraw]; rfl), taken.ptr_add_rem, hd,
      Nat.add_right_comm, Nat.add_assoc s.draws n 1, hdraw]

/-- Settles O39: a buffer that is not empty has a first unit to draw, and the finish complements the last draw. -/
theorem unbuiltTablesGiveADraw : Obligations.UnbuiltTablesGiveADraw := by
  intro v s bytes hr ha hb hv hlen
  have hrun := (pending_accepted v hb).unitsLeft.finishes_drawn hr hv (absurd · hlen)
  rw [accepted_ptr_toNat, zlib_of_readsTz hr] at hrun
  exact ⟨_, exec_acceptable ha, hrun⟩

/-! ## A scheduled command (R202, R210) -/

/-- R201: with its buffer pending a command ends in a finish, whether or not the tables it reads are built. -/
theorem UnitsLeft.reaches_finish {v : Variant} {s : State} {n : Nat} (h : UnitsLeft v s n) :
    ∃ a d p r, engineUnits n s =
      .next (finish (variantFamily v) { s with acc := a, draws := d, ptr := p, rem := r }) := by
  induction h with
  | last s run zero => exact ⟨s.acc, s.draws, s.ptr, s.rem, engineUnits_succ (engineUnit_finish run zero) 0⟩
  | unit s t _ _ _ n _ _ taken _ ih =>
    obtain ⟨a, d, heng⟩ := taken.engineOnly
    obtain ⟨a', d', p, r, hrun⟩ := ih
    refine ⟨a', d', p, r, ?_⟩
    rw [engineUnits_succ taken.unit, hrun, heng]

/-- With nothing scheduled every step is the engine's (log entry 2). -/
theorem step_unscheduled {s : State} (h : s.inputs = []) : step s = engineUnit s := by
  simp only [step, h]

/-- A run with nothing scheduled is a row of engine steps, none of which schedules anything. -/
theorem run_unscheduled (n : Nat) {s : State} (h : s.inputs = []) :
    Host.Core.run Sys2Proof.core n s = engineUnits n s := by
  induction n generalizing s with
  | zero => rfl
  | succ n ih =>
    have hstep : Sys2Proof.core.step s = engineUnit s := step_unscheduled h
    simp only [Host.Core.run, engineUnits]
    rw [hstep]
    cases hu : engineUnit s with
    | next t =>
      obtain ⟨-, -, -, -, -, -, -, hin, -⟩ := engineKeepsItsFrame s t hu
      exact ih (hin.trans h)
    | fault f => rfl
    | refused r => rfl

/-- The one step of a scheduled command row is its acceptance; the rest of the run is the engine's. -/
theorem run_scheduled_command {v : Variant} {s : State} (ha : Acceptable v s)
    (hi : s.inputs = [.transfer (encode (Command.checksum v).toInstr)]) (n : Nat) :
    Host.Core.run Sys2Proof.core (n + 1) s = engineUnits n (accepted v { s with inputs := [] }) := by
  have hstep : Sys2Proof.core.step s = .next (accepted v { s with inputs := [] }) := by
    refine (step_scheduled hi).trans ?_
    rw [runInput, instrOf_of_decode_ok (decode_encode _)]
    exact exec_acceptable ha
  simp only [Host.Core.run]
  rw [hstep]
  exact run_unscheduled n rfl

/-- Settles O43: the acceptance empties the schedule, the units end in a finish, and a finish over the tables the command
needs is the finished state. -/
theorem scheduledCommandRunsSafely : Obligations.ScheduledCommandRunsSafely := by
  intro v s bytes ha hb hfaults hi
  have ha' : Acceptable v { s with inputs := [] } := ha
  have hb' : BufferHolds { s with inputs := [] } bytes :=
    (memRead_congr (s := s) (t := { s with inputs := [] }) rfl rfl _ _).trans hb
  obtain ⟨a, d, p, r, hend⟩ := (pending_accepted v hb').unitsLeft.reaches_finish
  rw [accepted_ptr_toNat] at hend
  have hrun := (run_scheduled_command ha hi (unitsOf v s)).trans hend
  refine ⟨⟨_, hrun, hfaults⟩, _, hrun, rfl, rfl, rfl, rfl, hfaults, fun hready => ?_⟩
  obtain ⟨t, hexec, hunits⟩ := acceptable_command_finishes ha' hb' hready
  cases (exec_acceptable ha').symm.trans hexec
  have hfin := Host.Outcome.next.inj (hend.symm.trans hunits)
  rw [hfin]
  exact ⟨rfl, rfl⟩

end Sys2Proof.Machine
end

section
namespace Sys2Proof.Machine

/-! ## Host reads (R190) -/

theorem toNat_append_eq_add {m n : Nat} (x : BitVec m) (y : BitVec n) :
    (x ++ y).toNat = x.toNat * 2 ^ n + y.toNat := by
  rw [BitVec.toNat_append, ← Nat.shiftLeft_add_eq_or_of_lt y.isLt, Nat.shiftLeft_eq]

/-- R22: the weights of the fields of `STATUS`. -/
theorem statusWord_toNat (s : State) :
    (statusWord s).toNat = s.busy.toNat + 2 * s.tblValid.toNat + 4 * s.done.toNat + 256 * s.err.toNat := by
  simp only [statusWord, toNat_append_eq_add, BitVec.toNat_ofBool, BitVec.toNat_ofNat]
  omega

/-- R39: the reserved indices read as zero. -/
theorem exec_readInstr_reserved (s : State) {idx : BitVec 6} (h : 5 ≤ idx.toNat) :
    exec (readInstr idx) s = .next { s with reads := s.reads ++ [0] } := by
  have hlt := idx.isLt
  unfold readInstr
  generalize idx.toNat = n at h hlt
  interval_cases n <;> rfl

/-- Settles O11: the five named registers by their words, the reserved indices by zero. -/
theorem hostReadsReturnTheRegister : Obligations.HostReadsReturnTheRegister := fun s =>
  ⟨rfl, ⟨_, rfl, statusWord_toNat s⟩, ⟨_, rfl, srcValue_toNat s⟩, rfl, rfl, fun _ h => exec_readInstr_reserved s h⟩

/-! ## Host writes (R191, R196) -/

theorem exec_wrCrc_idle {s : State} (v : Word) (h : s.busy = false) : exec (.wrCrc v) s = .next (s.setCrc v) :=
  registerWrite_idle (fun t => t.setCrc v) h

/-- Settles O12: an idle write stores its word, `SRC` its low bits. -/
theorem idleRegisterWritesStore : Obligations.IdleRegisterWritesStore := fun _ v hidle =>
  ⟨⟨_, exec_wrSrc_idle v hidle, lowBits_toNat _ v⟩, exec_wrLen_idle v hidle, exec_wrCrc_idle v hidle⟩

/-- R196, R39: the writes of `STATUS` and of the reserved indices are ignored. -/
theorem exec_writeInstr_ignored (s : State) (v : Word) {idx : BitVec 6} (h : idx.toNat = 1 ∨ 5 ≤ idx.toNat) :
    exec (writeInstr idx v) s = .next s := by
  have hlt := idx.isLt
  unfold writeInstr
  generalize idx.toNat = n at h hlt
  obtain rfl | h := h
  · rfl
  · interval_cases n <;> rfl

/-- R80: the descriptors 0x41 and 0x45 to 0x7F are writes, of index 1 and of the indices from 5. -/
theorem ignored_descriptor_fields : ∀ d : Descriptor, d = 0x41 ∨ 0x45 ≤ d.toNat →
    d.getLsbD 6 = true ∧ ((d.setWidth 6).toNat = 1 ∨ 5 ≤ (d.setWidth 6).toNat) := by
  decide

/-- Settles O14: these descriptors decode to the ignored writes. -/
theorem ignoredWritesChangeNothing : Obligations.IgnoredWritesChangeNothing := by
  intro s d v hd
  obtain ⟨hwe, hidx⟩ := ignored_descriptor_fields d hd
  rw [decodeBus, if_pos hwe, exec_writeInstr_ignored s v hidx]

/-! ## Acceptance (R194) -/

/-- R79: a command's row and a `wr CMD` of its word are one request. -/
theorem exec_request {c : Command} {i : Instr} (h : i ∈ [c.toInstr, .wrCmd (encodeWord c)]) (s : State) :
    exec i s = exec c.toInstr s := by
  simp only [List.mem_cons, List.not_mem_nil, or_false] at h
  obtain rfl | rfl := h
  · rfl
  · rw [exec_wrCmd, decodeCommand_encodeWord, exec_command, requestOf]

theorem entryValue_eq_ite (f : Family) (c : Word) : entryValue f c = if f = .zlib then ~~~c else c := by
  cases f <;> rfl

/-- Settles O16: the row's acceptance, which the `CMD` write shares. -/
theorem acceptanceLatchesTheCommand : Obligations.AcceptanceLatchesTheCommand := by
  refine ⟨fun s hidle i hi => ?_, fun v s hidle himpl hrange i hi => ?_⟩
  · rw [exec_request (c := .initTables) hi]
    exact exec_initTables_idle hidle
  · have hptr : BitVec.ofNat 33 s.srcValue.toNat = s.srcValue.setWidth 33 := BitVec.ofNat_toNat 33 _
    rw [exec_request hi, exec_acceptable ⟨hidle, himpl, (rangeOk_iff s).2 hrange⟩, ← entryValue_eq_ite, hptr]
    rfl

/-! ## The frame of the instructions (R190 to R196, R202, R205) -/

/-- Settles O46: by the effects an instruction can have. -/
theorem everyInstructionCompletes : Obligations.EveryInstructionCompletes := fun i s =>
  (exec_effect i s).imp fun _ => And.left

/-- R215: while BUSY = 1 a transaction is a read, an ignored write or a drop. -/
theorem HostEffect.withRecords_of_busy {i : Instr} {s t : State} (e : HostEffect i s t) (hb : s.busy = true) :
    ∃ err faults reads, t = s.withRecords err faults reads ∧
      ((err = s.err ∧ faults = s.faults) ∨ (err = 3 ∧ faults = s.faults ++ [.busy])) := by
  cases e with
  | read idx => exact ⟨_, _, _, rfl, .inl ⟨rfl, rfl⟩⟩
  | ignored => exact ⟨_, _, s.reads, rfl, .inl ⟨rfl, rfl⟩⟩
  | dropped _ => exact ⟨_, _, s.reads, rfl, .inr ⟨rfl, rfl⟩⟩
  | _ => simp_all

/-- Settles O47: the effects that write anything else need BUSY = 0. -/
theorem busyTransactionsLeaveTheCommandAlone : Obligations.BusyTransactionsLeaveTheCommandAlone := by
  intro i s hb
  obtain ⟨t, hexec, e⟩ := exec_effect i s
  obtain ⟨err, faults, reads, rfl, h⟩ := e.withRecords_of_busy hb
  exact ⟨err, faults, reads, hexec, h⟩

/-- No transaction writes the host data space, the tables, the build, the draws or the schedule. -/
theorem HostEffect.keeps_surroundings {i : Instr} {s t : State} (e : HostEffect i s t) :
    t.mem = s.mem ∧ t.silent = s.silent ∧ t.tz = s.tz ∧ t.cfg = s.cfg ∧ t.draws = s.draws ∧ t.inputs = s.inputs := by
  cases e with
  | accepted c => cases c <;> exact ⟨rfl, rfl, rfl, rfl, rfl, rfl⟩
  | _ => exact ⟨rfl, rfl, rfl, rfl, rfl, rfl⟩

/-- R191: an operand register is written by its own write only. -/
theorem HostEffect.keeps_operands {i : Instr} {s t : State} (e : HostEffect i s t) :
    ((∀ v, i ≠ .wrSrc v) → t.src = s.src) ∧ ((∀ v, i ≠ .wrLen v) → t.len = s.len) ∧
    ((∀ v, i ≠ .wrCrc v) → t.crc = s.crc) := by
  cases e with
  | setSrc v _ hi => exact ⟨fun h => absurd hi (h v), fun _ => rfl, fun _ => rfl⟩
  | setLen v _ hi => exact ⟨fun _ => rfl, fun h => absurd hi (h v), fun _ => rfl⟩
  | setCrc v _ hi => exact ⟨fun _ => rfl, fun _ => rfl, fun h => absurd hi (h v)⟩
  | accepted c => cases c <;> exact ⟨fun _ => rfl, fun _ => rfl, fun _ => rfl⟩
  | _ => exact ⟨fun _ => rfl, fun _ => rfl, fun _ => rfl⟩

/-- R194: a transaction leaves BUSY, TBL_VALID and the engine's registers alone, unless it is the acceptance of a command
by an idle machine. -/
theorem HostEffect.keeps_engine_or_accepts {i : Instr} {s t : State} (e : HostEffect i s t) :
    (t.busy = s.busy ∧ t.acc = s.acc ∧ t.ptr = s.ptr ∧ t.rem = s.rem ∧ t.opl = s.opl ∧ t.phase = s.phase ∧
      t.tblValid = s.tblValid) ∨
    (s.busy = false ∧ ∃ c : Command, (i = c.toInstr ∨ i = .wrCmd (encodeWord c)) ∧ t = accept c s) := by
  cases e with
  | accepted c idle hi _ => exact .inr ⟨idle, c, hi.imp_right fun ⟨_, hi, hw⟩ => decodeWord_ok hw ▸ hi, rfl⟩
  | _ => exact .inl ⟨rfl, rfl, rfl, rfl, rfl, rfl, rfl⟩

theorem accept_flags (c : Command) (s : State) :
    (accept c s).busy = true ∧ (accept c s).err = 0 ∧ (accept c s).done = false ∧ (accept c s).opl = encodeOpcode c := by
  cases c <;> exact ⟨rfl, rfl, rfl, rfl⟩

/-- Settles O48: a transaction that is no acceptance keeps the engine's registers, and an acceptance is named by its command. -/
theorem instructionsKeepTheirFrame : Obligations.InstructionsKeepTheirFrame := by
  intro i s t hexec
  have e := exec_cases hexec
  obtain ⟨hmem, hsilent, htz, hcfg, hdraws, hinputs⟩ := e.keeps_surroundings
  obtain ⟨hsrc, hlen, hcrc⟩ := e.keeps_operands
  refine ⟨hmem, memByte_congr hmem hsilent, hsilent, htz, hcfg, hdraws, hinputs, hsrc, hlen, hcrc, ?_⟩
  obtain ⟨hbusy, hacc, hptr, hrem, hopl, hphase, hvalid⟩ | ⟨hidle, c, hi, rfl⟩ := e.keeps_engine_or_accepts
  · exact ⟨fun _ => ⟨hacc, hptr, hrem, hopl, hphase, hvalid⟩, absurd hbusy, absurd hvalid⟩
  · obtain ⟨hbusy, herr, hdone, hopl⟩ := accept_flags c s
    refine ⟨fun h => ?_, fun _ => ⟨hidle, herr, hdone, c, hi, hopl⟩, fun h => ?_⟩
    · rw [hbusy, hidle] at h
      contradiction
    · cases c with
      | initTables => exact ⟨hidle, rfl, rfl, rfl, rfl, hi⟩
      | checksum v => exact absurd rfl h

/-! ## The engine's turn (R197, R226) -/

theorem engineUnit_of_idle {s : State} (h : s.phase = .idle) : engineUnit s = .next s := by
  simp only [engineUnit, h]

/-- Settles O10: the schedule gives the engine its turn, and an empty one gives it every step. -/
theorem stepRunsTheEngineUnit : Obligations.StepRunsTheEngineUnit :=
  ⟨fun _ _ h => step_scheduled h, fun _ h => step_unscheduled h, fun _ h => engineUnit_of_idle h⟩

end Sys2Proof.Machine
end

section
namespace Sys2Proof.Machine

/-! ## Command requests that are dropped or rejected (R192, R195) -/

/-- R215: the busy check comes before the word is looked at. -/
theorem commandRequest_busy {s : State} (h : s.busy = true) (d : Except DecodeError Command) :
    commandRequest d s = .next (raiseError .busy s) := if_pos h

/-- R212: an idle machine rejects a word that decodes to no command, before any range check. -/
theorem commandRequest_illegal {s : State} (h : s.busy = false) (e : DecodeError) :
    commandRequest (.error e) s = .next (reject .illegal s) := by
  simp [commandRequest, h]

/-- R213: an idle machine rejects a legal checksum whose buffer is out of range. -/
theorem commandRequest_outOfRange {s : State} (h : s.busy = false) (hr : rangeOk s = false) (v : Variant) :
    commandRequest (.ok (.checksum v)) s = .next (reject .range s) := by
  simp [commandRequest, h, hr]

/-- Settles O13: a command request and an operand write each begin with the busy check. -/
theorem busyWritesAreDropped : Obligations.BusyWritesAreDropped := by
  intro s v c hbusy i hi
  simp only [List.mem_cons, List.not_mem_nil, or_false] at hi
  obtain rfl | rfl | rfl | rfl | rfl := hi
  · exact commandRequest_busy hbusy _
  · exact registerWrite_busy (fun t => t.setSrc v) hbusy
  · exact registerWrite_busy (fun t => t.setLen v) hbusy
  · exact registerWrite_busy (fun t => t.setCrc v) hbusy
  · exact (exec_command c s).trans (commandRequest_busy hbusy _)

/-! ### Illegal words (R76, R212) -/

/-- R71: a word that decodes to a command has RSVD zero and that command's opcode in `OP`. -/
theorem decodeWord_ok_fields {w : Word} {c : Command} (h : decodeWord w = .ok c) :
    w >>> 5 = 0 ∧ w.setWidth 5 = encodeOpcode c := by
  unfold decodeWord at h
  split at h
  case isTrue hz => exact ⟨hz, encodeOpcode_of_decodeOpcode _ _ h⟩
  case isFalse => contradiction

/-- R72: the opcode map gives different commands different opcodes. -/
theorem encodeOpcode_injective {c c' : Command} (h : encodeOpcode c = encodeOpcode c') : c = c' :=
  Except.ok.inj (by rw [← decodeOpcode_encodeOpcode c, h, decodeOpcode_encodeOpcode])

/-- R76: each of the three cases (a), (b), (c) makes a word one that decodes to no command of the build. -/
theorem decodeCommand_illegal {l : List Variant} {w : Word}
    (h : w >>> 5 ≠ 0 ∨ (∀ c : Command, w.setWidth 5 ≠ encodeOpcode c) ∨
      ∃ v : Variant, w.setWidth 5 = encodeOpcode (.checksum v) ∧ v ∉ l) :
    ∃ e, decodeCommand l w = .error e := by
  cases hd : decodeCommand l w with
  | error e => exact ⟨e, rfl⟩
  | ok c =>
    obtain ⟨hw, hlegal⟩ := decodeCommand_ok hd
    obtain ⟨hrsvd, hop⟩ := decodeWord_ok_fields hw
    obtain h | h | ⟨v, hv, hnot⟩ := h
    · exact absurd hrsvd h
    · exact absurd hop (h c)
    · obtain rfl := encodeOpcode_injective (hop.symm.trans hv)
      obtain h | ⟨v', hmem, h⟩ := hlegal
      · cases h
      · cases h
        exact absurd hmem hnot

/-- R76 (c): a build does not pass a checksum it lacks. -/
theorem checkImplemented_of_not_mem {l : List Variant} {v : Variant} (h : v ∉ l) :
    checkImplemented l (.checksum v) = .error .notImplemented := if_neg h

/-- Settles O17: the Illegal word, and the row of a checksum the build lacks, decode to an error. -/
theorem illegalWordsAreRejected : Obligations.IllegalWordsAreRejected := by
  intro s w hidle hillegal
  constructor
  · obtain ⟨e, he⟩ := decodeCommand_illegal hillegal
    rw [exec_wrCmd, he]
    exact commandRequest_illegal hidle e
  · intro v hv
    rw [exec_command, requestOf, checkImplemented_of_not_mem hv]
    exact commandRequest_illegal hidle _

/-! ### Buffers out of range (R193, R213) -/

/-- Settles O18: a legal checksum reaches the range check, and the row of `INIT_TABLES` has none. -/
theorem outOfRangeIsRejected : Obligations.OutOfRangeIsRejected := by
  refine ⟨fun v s hidle himpl hrange i hi => ?_, fun s hidle => ?_, fun s hcfg hsrc hlen => ?_⟩
  · rw [exec_request hi, exec_command, requestOf, checkImplemented_of_legal (.inr ⟨v, himpl, rfl⟩)]
    exact commandRequest_outOfRange hidle ((rangeOk_false_iff s).2 hrange) v
  · exact ⟨accept .initTables s, exec_initTables_idle hidle, rfl, rfl⟩
  · rw [srcValue_toNat, hcfg, hsrc, hlen]
    decide

/-! ### The order of the checks (R192, R216) -/

theorem accept_faults (c : Command) (s : State) : (accept c s).faults = s.faults := by cases c <;> rfl

/-- Settles O19: each outcome of the request records at most the one error of the check that failed. -/
theorem checksComeInOrder : Obligations.ChecksComeInOrder := by
  intro s w
  rw [exec_wrCmd]
  obtain ⟨hbusy, h⟩ | ⟨hidle, ⟨⟨e, hd⟩, h⟩ | ⟨hd, h⟩ | ⟨v, hd, ⟨hr, h⟩ | ⟨hr, h⟩⟩⟩ :=
    commandRequest_cases (decodeCommand s.cfg.implemented w) s
  · exact ⟨_, h, by simp [hbusy]⟩
  · exact ⟨_, h, by simp [hidle, hd]⟩
  · exact ⟨_, h, by simp [hidle, hd]⟩
  · have hin := Nat.not_lt.2 ((rangeOk_iff s).1 hr)
    exact ⟨_, h, by simp [hidle, hd, hin]⟩
  · have hout := (rangeOk_false_iff s).1 hr
    exact ⟨_, h, by simp [hidle, hd, hout]⟩

/-! ## The abort (R214) -/

theorem unitOver_of_busError {n : Nat} {s : State} (h : memRead s s.ptr.toNat n = .busError)
    (update : List Byte → State → State) : unitOver n update s = .next (abort s) := by
  rw [unitOver, h]

/-- Settles O34: a unit whose read fails is no finish, and its datapath is not reached. -/
theorem busErrorAbortsTheCommand : Obligations.BusErrorAbortsTheCommand := by
  intro v s hrun hread
  have h0 : s.rem ≠ 0 := by
    intro h0
    simp [h0, nextUnitBytes] at hread
  obtain ⟨f, -, hunit⟩ := checksumUnit_folds v h0
  rw [engineUnit_of_running hrun, hunit, unitOver_of_busError hread]
  rfl

/-- Settles O57: with every address answering, one `BusError` byte fails the read of the whole unit. -/
theorem anyBusErrorAbortsTheCommand : Obligations.AnyBusErrorAbortsTheCommand :=
  fun v s _ hrun hk hbyte hanswers => busErrorAbortsTheCommand v s hrun (memRead_busError hk hbyte hanswers)

/-! ## The fault record (R210) -/

theorem HostEffect.faults_grow {i : Instr} {s t : State} (e : HostEffect i s t) : s.faults <+: t.faults := by
  cases e with
  | dropped _ => exact List.prefix_append s.faults [.busy]
  | rejected e _ _ => exact List.prefix_append s.faults [e]
  | accepted c _ _ _ => rw [accept_faults]
  | _ => exact List.prefix_refl s.faults

theorem EngineEffect.faults_grow {s t : State} (e : EngineEffect s t) : s.faults <+: t.faults := by
  cases e with
  | aborted _ _ => exact List.prefix_append s.faults [.bus]
  | _ => exact List.prefix_refl s.faults

/-- Settles O52: a drop, a rejection and an abort append to the record, and every other step keeps it. -/
theorem faultRecordOnlyGrows : Obligations.FaultRecordOnlyGrows := by
  intro s t hstep
  obtain ⟨x, rest, -, e⟩ | ⟨rest, e⟩ | ⟨rest, -, rfl⟩ | ⟨rest, m, rfl⟩ := step_writers hstep
  · exact e.faults_grow
  · exact e.faults_grow
  · exact List.prefix_refl s.faults
  · exact List.prefix_refl s.faults

end Sys2Proof.Machine
end

section
namespace Sys2Proof.Machine

/-! ## The engine and the traffic of the host (R202) -/

/-- The same state with other events to come and other words returned: what the host's traffic changes beside the
block. -/
def State.withTraffic (s : State) (inputs : List Input) (reads : List Word) : State :=
  { s with inputs := inputs, reads := reads }

theorem withTraffic_of_inputs {s : State} {inputs : List Input} (h : s.inputs = inputs) :
    s.withTraffic inputs s.reads = s := by rw [← h]; rfl

/-- The second outcome is the first with other traffic beside it. -/
def CarriesTraffic (inputs : List Input) (reads : List Word) (o o' : Outcome) : Prop :=
  ∀ t, o = .next t → o' = .next (t.withTraffic inputs reads)

section
variable {inputs : List Input} {reads : List Word}

theorem CarriesTraffic.next (t : State) :
    CarriesTraffic inputs reads (.next t) (.next (t.withTraffic inputs reads)) := by
  intro u h
  cases h
  rfl

theorem CarriesTraffic.ite {p : Prop} [Decidable p] {a a' b b' : Outcome} (ha : CarriesTraffic inputs reads a a')
    (hb : CarriesTraffic inputs reads b b') :
    CarriesTraffic inputs reads (if p then a else b) (if p then a' else b') := by
  split
  · exact ha
  · exact hb

theorem unitOver_withTraffic {n : Nat} {update : List Byte → State → State} {s : State}
    (hu : ∀ c, update c (s.withTraffic inputs reads) = (update c s).withTraffic inputs reads) :
    CarriesTraffic inputs reads (unitOver n update s) (unitOver n update (s.withTraffic inputs reads)) := by
  have hread : memRead (s.withTraffic inputs reads) (s.withTraffic inputs reads).ptr.toNat n =
      memRead s s.ptr.toNat n := memRead_congr (s := s) (t := s.withTraffic inputs reads) rfl rfl _ _
  unfold unitOver
  rw [hread]
  cases memRead s s.ptr.toNat n with
  | data c => simp only [hu]; exact .next (consume n (update c s))
  | busError => exact .next (abort s)
  | noAnswer => exact .next s

theorem updateAccFromTz_withTraffic (f : Table → Word → Word) (s : State) :
    updateAccFromTz f (s.withTraffic inputs reads) = (updateAccFromTz f s).withTraffic inputs reads := by
  cases h : s.tblValid <;> simp [updateAccFromTz, State.withTraffic, h]

theorem zlibSlicingUnit_withTraffic (depth unroll : Nat) (s : State) : CarriesTraffic inputs reads
    (zlibSlicingUnit depth unroll s) (zlibSlicingUnit depth unroll (s.withTraffic inputs reads)) :=
  .ite (.next (finish .zlib s))
    (.ite (unitOver_withTraffic fun _ => updateAccFromTz_withTraffic _ s)
      (unitOver_withTraffic fun _ => updateAccFromTz_withTraffic _ s))

theorem castagnoliUnit_withTraffic (size : Nat) (step : Word → List Byte → Word) (s : State) :
    CarriesTraffic inputs reads (castagnoliUnit size step s) (castagnoliUnit size step (s.withTraffic inputs reads)) :=
  have hbyte : CarriesTraffic inputs reads (castagnoliByteUnit s) (castagnoliByteUnit (s.withTraffic inputs reads)) :=
    unitOver_withTraffic fun _ => rfl
  .ite (.next (finish .castagnoli s)) (.ite hbyte (.ite (unitOver_withTraffic fun _ => rfl) hbyte))

/-- The units of the commands see neither the schedule nor the words returned. -/
theorem checksumUnit_withTraffic (v : Variant) (s : State) :
    CarriesTraffic inputs reads (checksumUnit v s) (checksumUnit v (s.withTraffic inputs reads)) := by
  cases v
  case bitwise => exact .ite (.next (finish .zlib s)) (unitOver_withTraffic fun _ => rfl)
  case halfbyte =>
    exact .ite (.next (finish .zlib s)) (unitOver_withTraffic fun _ => updateAccFromTz_withTraffic _ s)
  case byte =>
    exact .ite (.next (finish .zlib s)) (unitOver_withTraffic fun _ => updateAccFromTz_withTraffic _ s)
  case slicing4 | slicing2x4 | slicing4x4 | slicing8 | slicing16 | slicing2x16 | slicing2x8 | slicing4x8 =>
    exact zlibSlicingUnit_withTraffic _ _ s
  case cSlicing4 | cSlicing2x4 | cSlicing4x4 | cSlicing8 | cSlicing16 | cSlicing32 =>
    exact castagnoliUnit_withTraffic _ _ s

/-- R197: which unit is next, and what it does, depends on the block and the host data space only. -/
theorem engineUnit_withTraffic {s t : State} (h : engineUnit s = .next t) :
    engineUnit (s.withTraffic inputs reads) = .next (t.withTraffic inputs reads) := by
  cases hp : s.phase with
  | idle =>
    cases (engineUnit_of_idle hp).symm.trans h
    exact engineUnit_of_idle hp
  | init =>
    cases (engineUnit_of_init hp).symm.trans h
    exact engineUnit_of_init hp
  | run =>
    simp only [engineUnit, hp] at h
    split at h
    case h_1 v ho =>
      rw [engineUnit_running (s := s.withTraffic inputs reads) hp ho]
      exact checksumUnit_withTraffic v s t h
    case h_2 => contradiction
    case h_3 => contradiction

end

/-! ## Engine turns in a row -/

theorem engineUnits_of_idle {s : State} (h : s.phase = .idle) (k : Nat) : engineUnits k s = .next s := by
  induction k with
  | zero => rfl
  | succ k ih => rw [engineUnits_succ (engineUnit_of_idle h), ih]

/-- A row of units with a next state begins with a unit that has one. -/
theorem engineUnits_succ_next {n : Nat} {s t : State} (h : engineUnits (n + 1) s = .next t) :
    ∃ u, engineUnit s = .next u ∧ engineUnits n u = .next t := by
  unfold engineUnits at h
  split at h
  case h_1 u hu => exact ⟨u, hu, h⟩
  case h_2 => contradiction
  case h_3 => contradiction

/-- R226: turns given to the engine after its finish change nothing. -/
theorem engineUnits_settled {n : Nat} {s t : State} (h : engineUnits n s = .next t) (hidle : t.phase = .idle) {k : Nat}
    (hk : n ≤ k) : engineUnits k s = .next t := by
  induction n generalizing s k with
  | zero =>
    cases h
    exact engineUnits_of_idle hidle k
  | succ n ih =>
    obtain ⟨k, rfl⟩ := Nat.exists_eq_add_of_le' hk
    obtain ⟨u, hu, hrest⟩ := engineUnits_succ_next h
    exact (engineUnits_succ hu _).trans (ih hrest (Nat.le_of_succ_le_succ hk))

/-! ## Scheduled runs (R202) -/

/-- A run whose first event is performed goes on from there. -/
theorem run_scheduled (s : State) (x : Input) (rest : List Input) (reads : List Word) {t : State}
    (h : runInput x (s.withTraffic rest reads) = .next t) (n : Nat) :
    Host.Core.run Sys2Proof.core (n + 1) (s.withTraffic (x :: rest) reads) = Host.Core.run Sys2Proof.core n t := by
  have hstep : Sys2Proof.core.step (s.withTraffic (x :: rest) reads) = .next t := 
    (step_scheduled (s := s.withTraffic (x :: rest) reads) rfl).trans h
  simp only [Host.Core.run]
  rw [hstep]

/-- A run is a first part and a rest. -/
theorem run_add {m : Nat} {s t : State} (h : Host.Core.run Sys2Proof.core m s = .next t) (n : Nat) :
    Host.Core.run Sys2Proof.core (m + n) s = Host.Core.run Sys2Proof.core n t := by
  induction m generalizing s with
  | zero =>
    cases h
    rw [Nat.zero_add]
  | succ m ih =>
    rw [Nat.add_right_comm]
    simp only [Host.Core.run] at h ⊢
    split at h
    case h_1 u hu => exact ih h
    case h_2 => contradiction
    case h_3 => contradiction

/-- R79 `poll`: polling runs as many units as it has engine turns, and returns one word to each read of `STATUS`. -/
theorem run_polls {polls : List Input} (hp : Polls polls) {s t : State}
    (h : engineUnits (polls.count .engine) s = .next t) (rest : List Input) (reads : List Word) :
    ∃ polled : List Word, polled.length = polls.length - polls.count .engine ∧
      Host.Core.run Sys2Proof.core polls.length (s.withTraffic (polls ++ rest) reads) =
        .next (t.withTraffic rest (reads ++ polled)) := by
  induction polls generalizing s reads with
  | nil =>
    cases h
    exact ⟨[], rfl, by rw [List.append_nil]; rfl⟩
  | cons x polls ih =>
    obtain ⟨hx, hps⟩ := List.forall_mem_cons.1 hp
    obtain rfl | rfl := hx
    · rw [List.count_cons_self] at h
      obtain ⟨u, hu, hunits⟩ := engineUnits_succ_next h
      obtain ⟨polled, hlen, hrun⟩ := ih hps hunits reads
      refine ⟨polled, ?_, ?_⟩
      · rw [List.count_cons_self, List.length_cons, hlen, Nat.add_sub_add_right]
      · exact (run_scheduled s .engine _ reads (engineUnit_withTraffic hu) _).trans hrun
    · have hcount : (Input.transfer (.bus 0x01 0) :: polls).count .engine = polls.count .engine :=
        List.count_cons_of_ne (by decide)
      rw [hcount] at h
      obtain ⟨polled, hlen, hrun⟩ := ih hps h (reads ++ [statusWord s])
      refine ⟨statusWord s :: polled, ?_, ?_⟩
      · rw [hcount, List.length_cons, List.length_cons, hlen, Nat.succ_sub List.count_le_length]
      · rw [List.append_assoc, List.singleton_append] at hrun
        exact (run_scheduled s (.transfer (.bus 0x01 0)) _ reads rfl _).trans hrun

end Sys2Proof.Machine
end

section
namespace Sys2Proof.Machine

/-! ## The boot sequence (R250) -/

/-- R79: a `CMD` write of a command's word does what the command's row does. -/
theorem exec_wrCmd_encodeWord (c : Command) (s : State) : exec (.wrCmd (encodeWord c)) s = exec c.toInstr s :=
  exec_request (by simp) s

/-- The state a table build leaves when an idle machine accepted `INIT_TABLES` (R106, R194). -/
def booted (s : State) : State :=
  flagsOfFinish { accept .initTables s with tz := builtTables, tblValid := true }

/-- R106: one engine turn builds the tables, and further turns change nothing. -/
theorem engineUnits_boot (s : State) {k : Nat} (hk : 1 ≤ k) :
    engineUnits k (accept .initTables s) = .next (booted s) :=
  engineUnits_settled (engineUnits_succ (engineUnit_of_init rfl) 0) rfl hk

/-- The run of the boot sequence, whole. -/
theorem run_bootSequence {s : State} {polls rest : List Input} (hidle : s.busy = false) (hp : Polls polls)
    (hengine : Input.engine ∈ polls) (hi : s.inputs = bootSequence polls ++ rest) :
    ∃ polled : List Word, Host.Core.run Sys2Proof.core (bootSequence polls).length s =
      .next ((booted s).withTraffic rest (s.reads ++ polled)) := by
  obtain ⟨polled, -, hrun⟩ := run_polls hp (engineUnits_boot s (List.count_pos_iff.2 hengine)) rest s.reads
  refine ⟨polled, (congrArg (Host.Core.run Sys2Proof.core _) (withTraffic_of_inputs hi)).symm.trans ?_⟩
  exact (run_scheduled s (.transfer (.bus 0x40 (encodeWord .initTables))) (polls ++ rest) s.reads
    ((exec_wrCmd_encodeWord _ _).trans (exec_initTables_idle hidle)) _).trans hrun

/-- Settles O44: the polling gives the accepted build its turn. -/
theorem bootSequenceMakesTheTablesReady : Obligations.BootSequenceMakesTheTablesReady := by
  intro s polls rest hidle hp hengine hi
  obtain ⟨polled, hrun⟩ := run_bootSequence hidle hp hengine hi
  exact ⟨_, hrun, rfl, ⟨rfl, rfl⟩, rfl, rfl, rfl, rfl, rfl, rfl, rfl⟩

/-! ## The command sequence (R251) -/

/-- The three operand writes of R79, performed. -/
def State.withOperands (s : State) (a n c : Word) : State := ((s.setSrc a).setLen n).setCrc c

theorem withOperands_srcValue (s : State) (a n c : Word) :
    (s.withOperands a n c).srcValue = ({ s with src := a, len := n } : State).srcValue := operandWrites_srcValue s a n

theorem withOperands_acceptable {v : Variant} {s : State} {a n : Word} (c : Word)
    (h : Acceptable v { s with src := a, len := n }) : Acceptable v (s.withOperands a n c) := by
  obtain ⟨hidle, himpl, hrange⟩ := h
  refine ⟨hidle, himpl, ?_⟩
  unfold rangeOk at hrange ⊢
  rw [withOperands_srcValue]
  exact hrange

theorem withOperands_bufferHolds {s : State} {a n : Word} {bytes : List Byte} (c : Word)
    (h : BufferHolds { s with src := a, len := n } bytes) : BufferHolds (s.withOperands a n c) bytes := by
  unfold BufferHolds at h ⊢
  rw [withOperands_srcValue]
  exact (memRead_congr (s := { s with src := a, len := n }) (t := s.withOperands a n c) rfl rfl _ _).trans h

theorem withOperands_unitsOf (v : Variant) (s : State) (a n c : Word) :
    unitsOf v (s.withOperands a n c) = unitsOf v { s with src := a, len := n } := by
  unfold unitsOf
  rw [withOperands_srcValue]
  rfl

/-- The four writes of the command sequence leave an acceptable command accepted. -/
theorem run_commandWrites {v : Variant} {s : State} {a n c : Word} (ha : Acceptable v (s.withOperands a n c))
    (rest : List Input) (reads : List Word) (k : Nat) :
    Host.Core.run Sys2Proof.core (k + 4) (s.withTraffic
      (.transfer (.bus 0x42 a) :: .transfer (.bus 0x43 n) :: .transfer (.bus 0x44 c) ::
        .transfer (.bus 0x40 (encodeWord (.checksum v))) :: rest) reads) =
      Host.Core.run Sys2Proof.core k ((accepted v (s.withOperands a n c)).withTraffic rest reads) := by
  have hidle : s.busy = false := ha.1
  refine (run_scheduled s (.transfer (.bus 0x42 a)) _ reads (exec_wrSrc_idle a hidle) _).trans ?_
  refine (run_scheduled (s.setSrc a) (.transfer (.bus 0x43 n)) _ reads (exec_wrLen_idle n hidle) _).trans ?_
  refine (run_scheduled ((s.setSrc a).setLen n) (.transfer (.bus 0x44 c)) _ reads (exec_wrCrc_idle c hidle) _).trans ?_
  exact run_scheduled (s.withOperands a n c) (.transfer (.bus 0x40 _)) rest reads
    ((exec_wrCmd_encodeWord _ _).trans (exec_acceptable ha)) k

/-- The two reads that end the command sequence return `STATUS` and `CRC`. -/
theorem run_resultReads (s : State) (rest : List Input) (reads : List Word) :
    Host.Core.run Sys2Proof.core 2
      (s.withTraffic (.transfer (.bus 0x01 0) :: .transfer (.bus 0x04 0) :: rest) reads) =
      .next (s.withTraffic rest (reads ++ [statusWord s, s.crc])) := by
  refine (run_scheduled s (.transfer (.bus 0x01 0)) _ reads rfl 1).trans ?_
  refine (run_scheduled s (.transfer (.bus 0x04 0)) rest (reads ++ [statusWord s]) rfl 0).trans ?_
  exact congrArg (fun r => Host.Outcome.next (s.withTraffic rest r)) (List.append_assoc reads [statusWord s] [s.crc])

/-- R251: a finished command shows DONE, no error, and whether the tables are built. -/
theorem statusWord_finished (v : Variant) (s : State) (bytes : List Byte) :
    statusWord (finished v s bytes) = if s.tblValid then 0x00000006 else 0x00000004 := by
  apply BitVec.eq_of_toNat_eq
  rw [statusWord_toNat]
  cases h : s.tblValid <;> simp [finished, h]

/-- The run of the command sequence, whole: the writes leave the command accepted, the polling gives it its units, and the
two reads return what the finish left. -/
theorem run_commandSequence {v : Variant} {s : State} {a n c : Word} {bytes : List Byte} {polls rest : List Input}
    (ha : Acceptable v (s.withOperands a n c)) (hb : BufferHolds (s.withOperands a n c) bytes)
    (hready : readsTz v = true → TablesReady s) (hp : Polls polls)
    (hunits : unitsOf v (s.withOperands a n c) ≤ polls.count .engine)
    (hi : s.inputs = commandSequence v a n c polls ++ rest) :
    ∃ polled : List Word, polled.length = polls.length - polls.count .engine ∧
      Host.Core.run Sys2Proof.core (commandSequence v a n c polls).length s =
        .next ((finished v (s.withOperands a n c) bytes).withTraffic rest (s.reads ++ polled ++
          [statusWord (finished v (s.withOperands a n c) bytes), refOf (variantFamily v) c bytes])) := by
  obtain ⟨t, hexec, hend⟩ := acceptable_command_finishes ha hb hready
  cases (exec_acceptable ha).symm.trans hexec
  obtain ⟨polled, hlen, hpolls⟩ := run_polls hp (engineUnits_settled hend rfl hunits)
    (.transfer (.bus 0x01 0) :: .transfer (.bus 0x04 0) :: rest) s.reads
  have hsize : (commandSequence v a n c polls).length = polls.length + 2 + 4 := by simp [commandSequence]
  refine ⟨polled, hlen, (congrArg (Host.Core.run Sys2Proof.core _) (withTraffic_of_inputs hi)).symm.trans ?_⟩
  rw [hsize, commandSequence, List.append_assoc, List.append_assoc]
  exact (run_commandWrites ha _ _ _).trans ((run_add hpolls 2).trans (run_resultReads _ rest _))

/-- Settles O45: the two words read last are the finish's `STATUS` and `CRC`. -/
theorem commandSequenceReturnsTheReference : Obligations.CommandSequenceReturnsTheReference := by
  intro v s a n c bytes polls rest ha hb hready hp hunits hi
  rw [← withOperands_unitsOf v s a n c] at hunits
  obtain ⟨polled, hlen, hrun⟩ :=
    run_commandSequence (withOperands_acceptable c ha) (withOperands_bufferHolds c hb) hready hp hunits hi
  rw [statusWord_finished] at hrun
  exact ⟨_, polled, hrun, rfl, hlen, rfl, rfl, rfl⟩

/-! ## Reset (R240, R241, R243) -/

/-- Settles O4: the block is idle with no error shown, and nothing is listed that could break a clause. -/
theorem invariantHoldsAtReset : Obligations.InvariantHoldsAtReset where
  cfgWf := by decide
  busyIff := by decide
  notDoneWhileBusy := nofun
  runOpcode := nofun
  initOpcode := nofun
  initNotValid := nofun
  ptrRem := nofun
  inSpace := nofun
  srcBits := by decide
  errCode := by decide
  errRecorded := absurd rfl
  tablesWhole := .inl rfl
  tablesValid := nofun
  memWf := reset_mem_wf
  memInSpace := nofun

/-- Settles O1: the fields of the reset state. -/
theorem resetGivesTheSpecifiedValues : Obligations.ResetGivesTheSpecifiedValues :=
  ⟨rfl, rfl, rfl, rfl, rfl, rfl, rfl, rfl⟩

/-- Settles O2: a scheduled reset is the reset event. -/
theorem resetEventAbandonsTheCommand : Obligations.ResetEventAbandonsTheCommand := fun s rest =>
  ⟨resetEvent { s with inputs := rest }, step_scheduled (s := { s with inputs := .reset :: rest }) rfl,
    rfl, rfl, rfl, rfl, rfl, rfl, rfl, rfl, rfl, rfl, rfl, rfl, rfl⟩

/-- A read of a register that holds zero returns zero. -/
theorem hostRead_of_zero {idx : Nat} {s : State} (h : registerValue idx s = 0) :
    hostRead idx s = .next { s with reads := s.reads ++ [0] } := by rw [hostRead, h]

theorem statusWord_resetEvent (s : State) : statusWord (resetEvent s) = 0 :=
  BitVec.eq_of_toNat_eq (by simp [statusWord_toNat])

theorem srcValue_resetEvent (s : State) : (resetEvent s).srcValue = 0 :=
  BitVec.eq_of_toNat_eq (by simp [srcValue_toNat])

/-- Settles O3: each of the four registers holds zero after the reset event. -/
theorem readsAfterResetReturnZero : Obligations.ReadsAfterResetReturnZero := by
  intro s
  refine ⟨resetEvent s, rfl, fun i hi => ?_⟩
  simp only [List.mem_cons, List.not_mem_nil, or_false] at hi
  obtain rfl | rfl | rfl | rfl := hi
  · exact hostRead_of_zero (idx := 1) (statusWord_resetEvent s)
  · exact hostRead_of_zero (idx := 2) (srcValue_resetEvent s)
  · exact hostRead_of_zero (idx := 3) (resetEvent_len s)
  · exact hostRead_of_zero (idx := 4) (resetEvent_crc s)

end Sys2Proof.Machine
end
